-- ==== Sys2Proof/Word.lean ====
section
/-! DEFINITION. The words of NGBC-CORE: a command byte, a 4-bit parameter, the 32-bit time word and an RGB colour
(00_scope.md R8, R10, R94; all unsigned). -/

namespace Sys2Proof

/-- An 8-bit unsigned value: a command byte, a brightness, the wheel phase, one colour channel (R8). -/
abbrev Byte := BitVec 8

/-- A 4-bit unsigned value: one nibble of a command byte (30_encoding.md R94). -/
abbrev Nibble := BitVec 4

/-- A time, duration or timer length: 32-bit unsigned, `TW = 32` (R8). Subtraction is the spec's `⊖`: it wraps
modulo 2^32 (R10). -/
abbrev Time := BitVec 32

/-- An RGB triple of three 8-bit unsigned channels (R8), passed whole to the sink (20_memory.md R73). -/
structure Rgb where
  r : Byte
  g : Byte
  b : Byte
  deriving DecidableEq, Repr, Inhabited

end Sys2Proof
end

