-- ==== Sys2Proof/Config.lean ====
section
/-! DEFINITION. What is fixed for a run (the parameters of 00_scope.md R6 and R7), the inputs the environment can give
(44_loop.md R240), and the free values: opaque constants without a body, of which nothing can be proved. -/

namespace Sys2Proof

/-- A profile family; the letter selects the table (20_memory.md R63). The 1-bit code of R20 is 0 = A, 1 = B. -/
inductive Family where
  | a
  | b
  deriving DecidableEq, Repr, Inhabited

/-- `FAMILY_A_NAME` (92 D47): naming only, no rule depends on it. -/
inductive FamilyName where
  | savi
  | legacy
  deriving DecidableEq, Repr, Inhabited

/-- `PULSE_LEVEL` (R7, 40_decoder.md R120): the line level the capture measures. The decoder classifies durations
only, so no rule of the core reads it. -/
inductive PulseLevel where
  | high
  | low
  deriving DecidableEq, Repr, Inhabited

/-- `OVERRUN` (R7, 20_memory.md R71): what a delivery to a full slot does. -/
inductive Overrun where
  | overwrite
  | drop
  | either
  deriving DecidableEq, Repr, Inhabited

/-- A profile record (20_memory.md R62). -/
structure Profile where
  colorIndex : Nat
  ignitionTime : Time
  extinguishDelay : Time
  extinguishTime : Time
  deriving DecidableEq, Repr, Inhabited

/-- The parameters of R6 (with the source's nominal values as defaults) and of R7 (open: no default, but for
`OVERRUN`, whose default is EITHER). Their constraints are `Config.wf` (WellFormed.lean). DESIGN CHOICE: where
10 × SPLIT does not fit 32 bits (SPLIT ≥ 429496730), the defaults of `DEC_TIMEOUT` and `PREAMBLE_NOMINAL` are taken
modulo 2^32; R6 is silent there (log entry 33). -/
structure Config where
  split : Time := 1600#32
  cutoff : Time := 4000#32
  decTimeout : Time := 10#32 * split
  preambleNominal : Time := 10#32 * split
  clashTime : Time := 40#32
  flickerTime : Time := 40#32
  nPixels : Nat
  mirrored : Bool
  hasPowerGate : Bool
  preambleLo : Time
  preambleHi : Time
  colorModeChangeTime : Time
  wheelPeriod : Time
  wheelStep : Byte
  sleepIdleTime : Time
  profileA : Vector Profile 16
  profileB : Vector Profile 16
  colorTable : List Rgb
  pulseLevel : PulseLevel
  familyAName : FamilyName
  overrun : Overrun := .either
  deriving DecidableEq, Repr

/-- The test configuration `TC` of 95_test_vectors.md section 0. State.reset holds it (DESIGN CHOICE, log entry 1);
`PULSE_LEVEL` and `FAMILY_A_NAME`, which TC leaves at any value, are chosen. -/
def Config.test : Config where
  nPixels := 4
  mirrored := false
  hasPowerGate := true
  preambleLo := 14000#32
  preambleHi := 18000#32
  colorModeChangeTime := 500#32
  wheelPeriod := 50#32
  wheelStep := 16#8
  sleepIdleTime := 100000#32
  profileA := (Vector.replicate 16 ⟨0, 100#32, 50#32, 100#32⟩).set 3 ⟨1, 200#32, 0#32, 40#32⟩
  profileB := Vector.replicate 16 ⟨2, 0#32, 0#32, 0#32⟩
  colorTable := [⟨0#8, 0#8, 255#8⟩, ⟨0#8, 255#8, 0#8⟩, ⟨255#8, 0#8, 0#8⟩]
  pulseLevel := .high
  familyAName := .savi

/-- One thing the outside world does to the block, between passes or as a pass (44_loop.md R240, R247). -/
inductive Stimulus where
  /-- `Deliver(d)`: the capture delivers a pulse of duration d (20_memory.md R71). -/
  | deliver (d : Time)
  /-- A pulse whose line activity overlapped a `Present()`: the capture may deliver nothing, or any duration
  (20_memory.md R83). -/
  | overlapped
  /-- The loop runs one pass, `Pass(now, w)` (44_loop.md R241). -/
  | pass (now wake : Time)
  deriving DecidableEq, Repr, Inhabited

/-- Free value: what the environment does at the n-th draw, where no stimulus is queued (log entry 2). -/
opaque Config.freeStimulus : Nat → Stimulus

/-- Free value: whether, under `OVERRUN = EITHER`, the n-th draw keeps the new pulse (R71, U8; log entry 9). -/
opaque Config.freeOverrunKeepsNew : Nat → Bool

/-- Free value: what the capture makes of a pulse that overlaps a present, at the n-th draw: nothing, or some
duration (R83, U9; log entry 10). -/
opaque Config.freeCapture : Nat → Option Time

/-- Free value: the colour of pixel i at reset (10_state.md R49, U5; log entry 5). -/
opaque Config.resetPixel : Nat → Rgb

/-- Free value: the sink's brightness at reset (R49, U5, U22; log entry 5). -/
opaque Config.resetSinkBrightness : Byte

/-- Free value: the slot's duration at reset, which no rule reads while the slot is empty (R46, U6; log entry 5). -/
opaque Config.resetSlotDur : Time

/-- Free value: the colour of a colour index outside `COLOR_TABLE`; a configuration that names one is refused, so
only `exec` called outside `step` can read it (20_memory.md R64, U18; log entry 11). -/
opaque Config.freeColor : Nat → Rgb

end Sys2Proof
end

