-- ==== Sys2Proof/Syntax.lean ====
section
/-! DEFINITION. The instructions: the 16 rows of the command byte's high nibble (30_encoding.md R95,
spec/opcode_table.json). Every row keeps its low nibble `p`: where the row ignores it, the whole byte still goes to
`last_command` (R96). -/

namespace Sys2Proof

/-- One constructor per row of the opcode table, with the parameter `p = c[3:0]` (30_encoding.md R94, R95). -/
inductive Instr where
  /-- NOP_0, 0x0_: unrecognised (41_commands.md R141). -/
  | nop0 (p : Nibble)
  /-- NOP_1, 0x1_: unrecognised (R142). -/
  | nop1 (p : Nibble)
  /-- IGNITE_A, 0x2_: ignite with profile p of family A (R143). -/
  | igniteA (p : Nibble)
  /-- IGNITE_B, 0x3_: ignite with profile p of family B (R144). -/
  | igniteB (p : Nibble)
  /-- EXTINGUISH_4, 0x4_ (R145). -/
  | extinguish4 (p : Nibble)
  /-- EXTINGUISH_5, 0x5_ (R146). -/
  | extinguish5 (p : Nibble)
  /-- FLICKER_LO, 0x6_: flicker at level p of the lower half (R147). -/
  | flickerLo (p : Nibble)
  /-- FLICKER_HI, 0x7_: flicker at level p of the upper half (R148). -/
  | flickerHi (p : Nibble)
  /-- OFF_8, 0x8_ (R149). -/
  | off8 (p : Nibble)
  /-- OFF_9, 0x9_ (R150). -/
  | off9 (p : Nibble)
  /-- SETCOLOR_A, 0xA_: select profile p of family A (R151). -/
  | setcolorA (p : Nibble)
  /-- SETCOLOR_B, 0xB_: select profile p of family B (R152). -/
  | setcolorB (p : Nibble)
  /-- CLASH_C, 0xC_ (R153). -/
  | clashC (p : Nibble)
  /-- CLASH_D, 0xD_ (R154). -/
  | clashD (p : Nibble)
  /-- OFF_E, 0xE_ (R155). -/
  | offE (p : Nibble)
  /-- OFF_F, 0xF_ (R156). -/
  | offF (p : Nibble)
  deriving DecidableEq, Repr, Inhabited

/-- The parameter `p = c[3:0]` of an instruction (30_encoding.md R94). -/
def Instr.param : Instr → Nibble
  | .nop0 p | .nop1 p | .igniteA p | .igniteB p | .extinguish4 p | .extinguish5 p | .flickerLo p | .flickerHi p
  | .off8 p | .off9 p | .setcolorA p | .setcolorB p | .clashC p | .clashD p | .offE p | .offF p => p

end Sys2Proof
end

