-- ==== Sys2Proof/WellFormed.lean ====
section
/-! DEFINITION. Well-formedness. An instruction's one operand is a 4-bit field and its type carries that bound, so every
instruction is well formed; the checks that can fail are those a configuration must meet (00_scope.md R6, R7;
20_memory.md R64; 93 U18), each under its own name. -/

namespace Sys2Proof

/-- The operand is one of 0..15 (30_encoding.md R94). The type `Nibble` already carries the bound. -/
def Instr.WellFormed (i : Instr) : Prop := i.param.toNat < 16

/-- `0 < SPLIT < CUTOFF` (R6). -/
def Config.thresholdsOk (c : Config) : Bool := decide (0#32 < c.split) && decide (c.split < c.cutoff)

/-- `CUTOFF ≤ PREAMBLE_LO ≤ PREAMBLE_HI` (R6). -/
def Config.preambleBandOk (c : Config) : Bool :=
  decide (c.cutoff ≤ c.preambleLo) && decide (c.preambleLo ≤ c.preambleHi)

/-- `N_PIXELS ≥ 1` (R7). -/
def Config.stripOk (c : Config) : Bool := decide (1 ≤ c.nPixels)

/-- `WHEEL_PERIOD ≥ 1` (R7). -/
def Config.wheelOk (c : Config) : Bool := decide (c.wheelPeriod ≠ 0#32)

/-- Every profile names a colour index inside `COLOR_TABLE` (20_memory.md R64). -/
def Config.colorsOk (c : Config) : Bool :=
  c.profileA.toList.all (fun p => decide (p.colorIndex < c.colorTable.length)) &&
    c.profileB.toList.all (fun p => decide (p.colorIndex < c.colorTable.length))

/-- A configuration inside the spec. Any other "is refused at configuration time" (20_memory.md R64; 93 U18). -/
def Config.wf (c : Config) : Bool :=
  c.thresholdsOk && c.preambleBandOk && c.stripOk && c.wheelOk && c.colorsOk

end Sys2Proof
end

