-- ==== Sys2Proof/Decode.lean ====
section
/-! DEFINITION. Decoding of a command byte and, after it, the encoder (30_encoding.md R94, R95, R98;
spec/opcode_table.json). Every byte decodes; only the want of a byte is refused, by name. -/

namespace Sys2Proof

/-- Why a list of bytes gives no instruction. All 256 bytes decode (R98), so there is one reason. -/
inductive DecodeError where
  /-- There is no byte to decode. -/
  | noByte
  deriving DecidableEq, Repr

/-- The command family `fam = c[7:4]` (R94). -/
def famOf (c : Byte) : Nibble := c.extractLsb' 4 4

/-- The parameter `p = c[3:0]` (R94). -/
def paramOf (c : Byte) : Nibble := c.extractLsb' 0 4

/-- The row the high nibble selects (R95, 41_commands.md R140): bits 7, 6, 5, 4 as the table's encoding writes them. -/
def decodeByte (c : Byte) : Instr :=
  match c.getLsbD 7, c.getLsbD 6, c.getLsbD 5, c.getLsbD 4 with
  | false, false, false, false => .nop0 (paramOf c)
  | false, false, false, true => .nop1 (paramOf c)
  | false, false, true, false => .igniteA (paramOf c)
  | false, false, true, true => .igniteB (paramOf c)
  | false, true, false, false => .extinguish4 (paramOf c)
  | false, true, false, true => .extinguish5 (paramOf c)
  | false, true, true, false => .flickerLo (paramOf c)
  | false, true, true, true => .flickerHi (paramOf c)
  | true, false, false, false => .off8 (paramOf c)
  | true, false, false, true => .off9 (paramOf c)
  | true, false, true, false => .setcolorA (paramOf c)
  | true, false, true, true => .setcolorB (paramOf c)
  | true, true, false, false => .clashC (paramOf c)
  | true, true, false, true => .clashD (paramOf c)
  | true, true, true, false => .offE (paramOf c)
  | true, true, true, true => .offF (paramOf c)

/-- Decoding of a byte list: the first instruction and the bytes after it. One command is one byte (R99). -/
def decode : List Byte → Except DecodeError (Instr × List Byte)
  | [] => .error .noByte
  | c :: rest => .ok (decodeByte c, rest)

/-- The table's word for a row: `nbits` bits of `w`, bit 0 the least significant of the command byte. A word that does
not fit one byte is no single command and is refused. -/
def decodeTableWord (nbits w : Nat) : Option Instr :=
  if w % 2 ^ nbits < 256 then
    match decode [BitVec.ofNat 8 (w % 2 ^ nbits)] with
    | .ok (i, _) => some i
    | .error _ => none
  else none

/-- The high nibble of a row (R95). -/
def Instr.fam : Instr → Nibble
  | .nop0 _ => 0x0#4
  | .nop1 _ => 0x1#4
  | .igniteA _ => 0x2#4
  | .igniteB _ => 0x3#4
  | .extinguish4 _ => 0x4#4
  | .extinguish5 _ => 0x5#4
  | .flickerLo _ => 0x6#4
  | .flickerHi _ => 0x7#4
  | .off8 _ => 0x8#4
  | .off9 _ => 0x9#4
  | .setcolorA _ => 0xA#4
  | .setcolorB _ => 0xB#4
  | .clashC _ => 0xC#4
  | .clashD _ => 0xD#4
  | .offE _ => 0xE#4
  | .offF _ => 0xF#4

/-- The command byte of an instruction: family in bits 7:4, parameter in bits 3:0 (R94, R95). -/
def encodeByte (i : Instr) : Byte := i.fam ++ i.param

/-- The words of an instruction: its one byte (R99). -/
def encode (i : Instr) : List Byte := [encodeByte i]

end Sys2Proof
end

