-- ==== Sys2Proof/Machine/Colors.lean ====
section
/-! DEFINITION. The named colours (00_scope.md R8) and the colour wheel (43_tick.md R215). The channel values of the
named colours and the wheel's coefficients are the spec's own general knowledge (93 G1, G2). -/

namespace Sys2Proof

/-- `BLACK = (0,0,0)` (R8). -/
def Rgb.black : Rgb := ⟨0#8, 0#8, 0#8⟩

/-- `WHITE = (255,255,255)` (R8). -/
def Rgb.white : Rgb := ⟨255#8, 255#8, 255#8⟩

/-- `YELLOW = (255,255,0)` (R8). -/
def Rgb.yellow : Rgb := ⟨255#8, 255#8, 0#8⟩

/-- `Wheel(p)`: three segments red → blue → green → red (43_tick.md R215). -/
def wheel (p : Byte) : Rgb :=
  if p.toNat < 85 then
    ⟨BitVec.ofNat 8 (255 - 3 * p.toNat), 0#8, BitVec.ofNat 8 (3 * p.toNat)⟩
  else if p.toNat < 170 then
    ⟨0#8, BitVec.ofNat 8 (3 * (p.toNat - 85)), BitVec.ofNat 8 (255 - 3 * (p.toNat - 85))⟩
  else
    ⟨BitVec.ofNat 8 (3 * (p.toNat - 170)), BitVec.ofNat 8 (255 - 3 * (p.toNat - 170)), 0#8⟩

end Sys2Proof
end

