-- ==== Sys2Proof/Machine/State.lean ====
section
/-! DEFINITION. The state of NGBC-CORE: every element of 10_state.md R20, then the model's own fields; the observation
records; the faults and refusals; reset (R45 to R49, 70_reset_and_hazards.md R290). -/

namespace Sys2Proof.Machine

/-- `state`, a 4-bit enumeration (10_state.md R30): ten named codes and the six reserved ones, code 10 + k. -/
inductive BladeState where
  | uninitialized
  | off
  | igniting
  | on
  | idle
  | clash
  | extinguishing
  | refresh
  | flickerLow
  | flickerHigh
  /-- A reserved code, 10 to 15: never written; a model that finds one has a fault (R30, 93 U1). -/
  | reserved (k : Fin 6)
  deriving DecidableEq, Repr, Inhabited

/-- `color_mode`, a 3-bit enumeration (10_state.md R32): five variants and the three reserved codes, code 5 + k. -/
inductive ColorMode where
  | stock
  | wheelCycle
  | wheelCycleWhite
  | wheelHold
  | wheelHoldWhite
  /-- A reserved code, 5 to 7: never written; finding one is a fault (R32, 93 U2). -/
  | reserved (k : Fin 3)
  deriving DecidableEq, Repr, Inhabited

/-- `ext_phase`: 0 = DELAY, 1 = ANIM (R39). -/
inductive ExtPhase where
  | delay
  | anim
  deriving DecidableEq, Repr, Inhabited

/-- Why a command was dropped, with what its record carries (60_exceptions.md R262, codes 6 and 7). -/
inductive DropReason where
  /-- The guard of a set-color failed in this state (41_commands.md R151, R152). -/
  | guard (atState : BladeState)
  /-- There is no active profile (R145 to R148, R153, R154). -/
  | noProfile
  deriving DecidableEq, Repr, Inhabited

/-- An observation record (60_exceptions.md R262). Records are not hardware state and nothing reads them. -/
inductive Record where
  | resync (d : Time)
  | preamble (d : Time)
  | timeout
  | command (c : Byte)
  | unrecognized (c : Byte)
  | dropped (c : Byte) (why : DropReason)
  | power (level : Bool)
  | present (frame : List Rgb) (level : Byte)
  | sleep
  deriving DecidableEq, Repr, Inhabited

/-- Why the machine stops with a fault. The rules never reach one (92 D45); every one is raised by `step` alone, at the
start of a step on a state that already holds the impossible value. All are safe: the model stops, where the spec has
no behaviour. -/
inductive Fault where
  /-- Raised by `step` on `state` at a reserved code (R30, U1). Safe. -/
  | reservedState
  /-- Raised by `step` on `color_mode` at a reserved code (R32, U2). Safe. -/
  | reservedColorMode
  /-- Raised by `step` on `prof_valid = 0` with `state` neither Uninitialized nor Off (R31, U3). Safe. -/
  | profileMissing
  deriving DecidableEq, Repr

/-- Why the model refuses to run. -/
inductive Refusal where
  /-- Raised by an arm of `exec` for an instruction without a meaning yet. No arm raises it. Safe. -/
  | notModelled (mnemonic : String)
  /-- Raised by `step` on a configuration the spec refuses (R6, R7, R64, U18). Safe. -/
  | illFormedConfig
  /-- Raised by `step` on a pass whose `now` is before the last pass or before the wake time the last `RequestSleep`
  returned, or 2^31 or more after the last pass (44_loop.md R249, 93 U19). Safe. -/
  | timeDuty
  /-- Raised by `step` on a pass that calls `RequestSleep` with `w` before its `now` (R249, U19). Safe. -/
  | wakeDuty
  /-- Raised by `step` on an overlapped pulse where there is no `Present()` it can overlap (20_memory.md R83), or where
  suppression covers it (70_reset_and_hazards.md R293; log entry 10). Safe. -/
  | overlapWithoutPresent
  deriving DecidableEq, Repr

/-- Which presents the pulse now on the line can have overlapped: the model's note, from which the next stimulus is
judged (20_memory.md R83, 70_reset_and_hazards.md R293; log entry 10). -/
inductive Window where
  /-- None. -/
  | shut
  /-- Only one from before the last sleep, so only a pulse that the waking edge ends. -/
  | spanning
  /-- One of a pass before the last. -/
  | past
  /-- The last pass's. -/
  | latest
  deriving DecidableEq, Repr, Inhabited

/-- The state. The first group is the spec's, in the order of the table of 10_state.md R20; the second group is the
model's own (INVENTORY.md, State). -/
structure State where
  /-- The partial command byte (R21). -/
  acc : Byte
  /-- How many bits it holds, 0..7 (R22). -/
  nbits : BitVec 3
  /-- `now` of the pass that last consumed a pulse (R23). -/
  lastPulseTs : Time
  /-- "Decoding in progress" (R24). -/
  suppress : Bool
  /-- The slot holds a pulse not yet consumed (R26). -/
  slotValid : Bool
  /-- Its duration (R26). -/
  slotDur : Time
  /-- The blade state (R30). -/
  state : BladeState
  /-- The most recently dispatched command byte (R28). -/
  lastCommand : Byte
  /-- The active profile is selected (R29). -/
  profValid : Bool
  /-- Its family (R29). -/
  profFam : Family
  /-- Its index (R29). -/
  profIdx : Nibble
  /-- The colour mode (R32). -/
  colorMode : ColorMode
  /-- The fill colour (R34). -/
  primaryColor : Rgb
  /-- The clash colour (R34). -/
  clashColor : Rgb
  /-- The wheel phase (R35). -/
  wheelIndex : Byte
  /-- The level last passed to `SetBrightness` (R36). -/
  brightness : Byte
  /-- The state-machine timer runs (R37). -/
  timerArmed : Bool
  /-- Since when (R37). -/
  timerStart : Time
  /-- For how long (R37). -/
  timerLen : Time
  /-- An extinguish was ever recorded (R38). -/
  extTsValid : Bool
  /-- When the last one was (R38). -/
  extTs : Time
  /-- The sub-phase of Extinguishing (R39). -/
  extPhase : ExtPhase
  /-- Logical pixels lit or darkened so far (R40). -/
  animCount : Nat
  /-- The sink holds changes not yet presented (R41). -/
  dirty : Bool
  /-- The LED power-gate output (R42). -/
  ledPower : Bool
  /-- The LED sink buffer, physical pixel 0 first (R44). -/
  fb : List Rgb
  /-- The sink's brightness (R44). -/
  sinkBrightness : Byte
  /-- The configuration of the run (00_scope.md R6, R7; log entry 1). No step writes it. -/
  cfg : Config
  /-- The time input of the current pass (44_loop.md R241; log entry 3). -/
  now : Time
  /-- Its wake-time draw (R241; log entry 3). -/
  wake : Time
  /-- The time the loop is awake since: the last pass's `now`, or the `w` its `RequestSleep` returned (R249; log
  entry 3). -/
  awakeAt : Time
  /-- The edge that ended the last sleep is still to be delivered (60_exceptions.md R264; log entry 16). -/
  wakeOwed : Bool
  /-- Which presents the pulse now on the line can have overlapped (20_memory.md R83; log entry 10). -/
  window : Window
  /-- The stimuli given to the block and not yet used, the next first (R43; log entry 2). -/
  stim : List Stimulus
  /-- How many free values have been drawn (log entry 2). -/
  draws : Nat
  /-- The observation records, oldest first (60_exceptions.md R262; log entry 4). -/
  trace : List Record
  deriving DecidableEq, Repr

/-- The state after reset (R45 to R48) under a configuration, for each draw of what R46 and R49 leave unspecified:
the sink's frame and brightness and the slot's duration. -/
def State.resetWith (cfg : Config) (frame : List Rgb) (level : Byte) (dur : Time) : State where
  acc := 0x00#8
  nbits := 0#3
  lastPulseTs := 0#32
  suppress := false
  slotValid := false
  slotDur := dur
  state := .uninitialized
  lastCommand := 0x00#8
  profValid := false
  profFam := .a
  profIdx := 0#4
  colorMode := .stock
  primaryColor := Rgb.black
  clashColor := Rgb.black
  wheelIndex := 0#8
  brightness := 255#8
  timerArmed := false
  timerStart := 0#32
  timerLen := 0#32
  extTsValid := false
  extTs := 0#32
  extPhase := .delay
  animCount := 0
  dirty := false
  ledPower := false
  fb := frame
  sinkBrightness := level
  cfg := cfg
  now := 0#32
  wake := 0#32
  awakeAt := 0#32
  wakeOwed := false
  window := .shut
  stim := []
  draws := 0
  trace := []

/-- The machine right after reset: the test configuration (log entry 1) and the free draws of R46 and R49 (log
entry 5). -/
def State.reset : State :=
  State.resetWith Config.test ((List.range Config.test.nPixels).map Config.resetPixel)
    Config.resetSinkBrightness Config.resetSlotDur

end Sys2Proof.Machine
end

