-- ==== Sys2Proof/Machine/Ops.lean ====
section
/-! DEFINITION. The named operations over the state: the observation trace, the LED sink, the timer, the profile store
and colour table, the pulse slot and the power collaborator (20_memory.md R60 to R72; 10_state.md R37; 60_exceptions.md
R262, R270). The block takes no exception and returns from none (60_exceptions.md R260, R266, R267), so there is no
operation for either. -/

namespace Sys2Proof.Machine

/-- The 4-bit code of a blade state (10_state.md R30). -/
def BladeState.code : BladeState → BitVec 4
  | .uninitialized => 0#4
  | .off => 1#4
  | .igniting => 2#4
  | .on => 3#4
  | .idle => 4#4
  | .clash => 5#4
  | .extinguishing => 6#4
  | .refresh => 7#4
  | .flickerLow => 8#4
  | .flickerHigh => 9#4
  | .reserved k => BitVec.ofNat 4 (10 + k.val)

/-- The 3-bit code of a colour mode (10_state.md R32). -/
def ColorMode.code : ColorMode → BitVec 3
  | .stock => 0#3
  | .wheelCycle => 1#3
  | .wheelCycleWhite => 2#3
  | .wheelHold => 3#3
  | .wheelHoldWhite => 4#3
  | .reserved k => BitVec.ofNat 3 (5 + k.val)

/-- The 1-bit code of a family: 0 = A, 1 = B (R20). -/
def familyCode : Family → BitVec 1
  | .a => 0#1
  | .b => 1#1

/-- The 1-bit code of the extinguish phase: 0 = DELAY, 1 = ANIM (R20). -/
def ExtPhase.code : ExtPhase → BitVec 1
  | .delay => 0#1
  | .anim => 1#1

/-- The code of a record (60_exceptions.md R262). -/
def Record.code : Record → Nat
  | .resync _ => 1
  | .preamble _ => 2
  | .timeout => 3
  | .command _ => 4
  | .unrecognized _ => 5
  | .dropped _ (.guard _) => 6
  | .dropped _ .noProfile => 7
  | .power _ => 8
  | .present _ _ => 9
  | .sleep => 10

/-- The code is one of the ten the rules write (R30). -/
def BladeState.legal : BladeState → Bool
  | .reserved _ => false
  | _ => true

/-- The code is one of the five the rules write (R32). -/
def ColorMode.legal : ColorMode → Bool
  | .reserved _ => false
  | _ => true

/-- `Emit(ev)`: append a record to the trace (00_scope.md R12, 60_exceptions.md R262). -/
def emit (r : Record) (s : State) : State := { s with trace := s.trace ++ [r] }

/-- `SetPixel(i, c)`; an index at or past the strip's end is ignored (20_memory.md R66). -/
def setPixel (i : Nat) (c : Rgb) (s : State) : State := { s with fb := s.fb.set i c }

/-- `FillRange(c, a, n)`: pixels a to a + n - 1, those past the strip's end ignored (R67). The rules never call it. -/
def fillRange (c : Rgb) (a n : Nat) (s : State) : State :=
  { s with fb := s.fb.mapIdx fun i old => if a ≤ i ∧ i < a + n then c else old }

/-- `FillAll(c)`: every pixel of the strip (R68). -/
def fillAll (c : Rgb) (s : State) : State := { s with fb := List.replicate s.cfg.nPixels c }

/-- A write of `brightness` paired with `SetBrightness` of the same level (10_state.md R36, 20_memory.md R69). -/
def setBrightness (b : Byte) (s : State) : State := { s with brightness := b, sinkBrightness := b }

/-- A pass starts: what was the last pass's present no longer is, and a pulse that the last waking edge ended has ended
(60_exceptions.md R273; log entry 10). -/
def Window.passStarted : Window → Window
  | .latest | .past => .past
  | .spanning | .shut => .shut

/-- The loop sleeps: a pulse that overlapped an earlier present ends with the waking edge (log entry 10). -/
def Window.slept : Window → Window
  | .latest | .past | .spanning => .spanning
  | .shut => .shut

/-- A pulse ends. The next one can have overlapped the last pass's present alone, which may still run (log entry 10). -/
def Window.pulseEnded : Window → Window
  | .latest => .latest
  | .past | .spanning | .shut => .shut

/-- `Present()`: it records what the sink shows and changes nothing of the core (R70). `window` is the model's note that
a pulse may overlap it (log entry 10). -/
def present (s : State) : State := emit (.present s.fb s.sinkBrightness) { s with window := .latest }

/-- "Mark output dirty" (10_state.md R41). -/
def markDirty (s : State) : State := { s with dirty := true }

/-- "Arm a timer of length T" at the pass's time; it overwrites any timer already armed (R37). -/
def armTimer (len : Time) (s : State) : State :=
  { s with timerArmed := true, timerStart := s.now, timerLen := len }

/-- "Clear the timer" (R37). -/
def clearTimer (s : State) : State := { s with timerArmed := false }

/-- `Lookup(fam, i)`: `PROFILE_fam[i]` (20_memory.md R63). -/
def lookup (cfg : Config) (fam : Family) (i : Nibble) : Profile :=
  match fam with
  | .a => cfg.profileA[i.toNat]'i.isLt
  | .b => cfg.profileB[i.toNat]'i.isLt

/-- `profile`: the record the active profile refers to (10_state.md R29). -/
def activeProfile (s : State) : Profile := lookup s.cfg s.profFam s.profIdx

/-- `ColorOf(ci)` (20_memory.md R64). Outside the table, where the configuration is refused, a free value (log
entry 11). -/
def colorOf (cfg : Config) (ci : Nat) : Rgb := cfg.colorTable.getD ci (Config.freeColor ci)

/-- `Take()`: reads and clears the slot as one action (20_memory.md R72). -/
def take (s : State) : State × Option Time :=
  if s.slotValid then ({ s with slotValid := false }, some s.slotDur) else (s, none)

/-- What a delivery to a full slot leaves: whether the new pulse is kept (R71). EITHER draws a free value (log
entry 9). -/
def overrunKeepsNew (s : State) : Bool :=
  match s.cfg.overrun with
  | .overwrite => true
  | .drop => false
  | .either => Config.freeOverrunKeepsNew s.draws

/-- The draw an overrun uses up: one, under EITHER only. -/
def overrunDraws (s : State) : Nat :=
  match s.cfg.overrun with
  | .either => s.draws + 1
  | .overwrite | .drop => s.draws

/-- A pulse ended on the line, in the model's notes: no waking edge is owed any more (60_exceptions.md R264; log
entry 16), and the next pulse is another (log entry 10). -/
def endPulse (s : State) : State := { s with wakeOwed := false, window := s.window.pulseEnded }

/-- `Deliver(d)` (R71): into an empty slot the pulse is stored; into a full one, as `OVERRUN` says. -/
def deliver (d : Time) (s : State) : State :=
  if s.slotValid then
    endPulse { s with slotDur := if overrunKeepsNew s then d else s.slotDur, draws := overrunDraws s }
  else endPulse { s with slotDur := d, slotValid := true }

/-- A pulse whose line activity overlapped a present: not delivered, or delivered with any duration, a free choice
(R83; log entry 10). A waking edge lost here is lost in a present and not in the sleep (log entry 16). -/
def deliverOverlapped (s : State) : State :=
  match Config.freeCapture s.draws with
  | none => endPulse { s with draws := s.draws + 1 }
  | some d => deliver d { s with draws := s.draws + 1 }

/-- `RequestSleep()`: it returns the wake time of the pass, and the loop is awake from then on. All state of the core is
retained (60_exceptions.md R270). The edge that wakes the block is to be delivered later (R264; log entry 16); a present
before the sleep is overlapped by a pulse that spans it alone (log entry 10). -/
def requestSleep (s : State) : State × Time :=
  ({ s with awakeAt := s.wake, wakeOwed := true, window := s.window.slept }, s.wake)

end Sys2Proof.Machine
end

