-- ==== Sys2Proof/Machine/Operands.lean ====
section
/-! DEFINITION. Operand forms and the arithmetic on them: the command's parameter as a profile index or a flicker level
(30_encoding.md R94), logical pixels (20_memory.md R65), and the animation and brightness arithmetic of 42_state_entry.md
R180 and 43_tick.md R202, R211, R218, on unbounded naturals. -/

namespace Sys2Proof.Machine

/-- `last_command <- c` (41_commands.md R140, 10_state.md R28). -/
def recordCommand (c : Byte) (s : State) : State := { s with lastCommand := c }

/-- `prof_valid <- 1; prof_fam <- fam; prof_idx <- p` (41_commands.md R143, R144, R151, R152). -/
def selectProfile (fam : Family) (p : Nibble) (s : State) : State :=
  { s with profValid := true, profFam := fam, profIdx := p }

/-- `N_LOG`: the number of logical pixels, `L`, or `ceil(L/2)` in a mirrored install (20_memory.md R65). -/
def nLog (cfg : Config) : Nat := if cfg.mirrored then (cfg.nPixels + 1) / 2 else cfg.nPixels

/-- `Phys(k)`: the physical pixels logical pixel k drives: k, and in a mirrored install also L - 1 - k where that is
another pixel (R65). -/
def phys (cfg : Config) (k : Nat) : List Nat :=
  if cfg.mirrored = true ∧ k ≠ cfg.nPixels - 1 - k then [k, cfg.nPixels - 1 - k] else [k]

/-- `LightLogical(k, c)`: `SetPixel` of each pixel of `Phys(k)` (R65). -/
def lightLogical (k : Nat) (c : Rgb) (s : State) : State :=
  (phys s.cfg k).foldl (fun t j => setPixel j c t) s

/-- `LightLogical` of each of the n logical pixels k, k + 1, ... in that order (43_tick.md R203). -/
def lightUp (c : Rgb) : Nat → Nat → State → State
  | _, 0, s => s
  | k, n + 1, s => lightUp c (k + 1) n (lightLogical k c s)

/-- `LightLogical(N - 1 - m, BLACK)` for each of the n values m, m + 1, ...: from the tip inward (R205). -/
def darken : Nat → Nat → State → State
  | _, 0, s => s
  | m, n + 1, s => darken (m + 1) n (lightLogical (nLog s.cfg - 1 - m) Rgb.black s)

/-- `Target(e, T, N)`: `round(e / T × N)`, rounded half up and clamped to N; N at once where T = 0 (R202). N is reached
at the last half step, before `e = T` (V40: `Target(88, 100, 4) = 4`), where the derived rule R216 says "exactly in the
first pass" with `e ≥ T`: DEDUCED, the formula and its vectors win (log entry 32). -/
def target (e len n : Nat) : Nat :=
  if len = 0 then n else min n ((2 * e * n + len) / (2 * len))

/-- The target of the running animation: `Target(now ⊖ timer_start, timer_len, N_LOG)` (R203, R205). -/
def animTarget (s : State) : Nat :=
  target (s.now - s.timerStart).toNat s.timerLen.toNat (nLog s.cfg)

/-- `FlickerLevel(LOW, p)` (42_state_entry.md R180). -/
def flickerLevelLow (p : Nibble) : Byte := BitVec.ofNat 8 (p.toNat * 127 / 15)

/-- `FlickerLevel(HIGH, p)` (R180). -/
def flickerLevelHigh (p : Nibble) : Byte := BitVec.ofNat 8 (128 + p.toNat * 127 / 15)

/-- `Dim(b) = floor(4 × b / 5)` (43_tick.md R211). -/
def dim (b : Byte) : Byte := BitVec.ofNat 8 (4 * b.toNat / 5)

/-- `WheelPeriod(m)`: doubled, modulo 2^32, in WheelCycleWhite (43_tick.md R218). -/
def wheelPeriod (cfg : Config) (m : ColorMode) : Time :=
  match m with
  | .wheelCycleWhite => 2#32 * cfg.wheelPeriod
  | _ => cfg.wheelPeriod

end Sys2Proof.Machine
end

