-- ==== Sys2Proof/Machine/Flags.lean ====
section
/-! DEFINITION. The conditions the rules test: the elapsed timer (10_state.md R37), the decoder timeout (40_decoder.md
R119), the quick re-ignite (42_state_entry.md R171), the guards of the commands (30_encoding.md R95), the wheel-cycle
modes (10_state.md R32), the present gate (44_loop.md R245), and the fault conditions (R30 to R32). -/

namespace Sys2Proof.Machine

/-- `Elapsed()`: `timer_armed = 1 ∧ now ⊖ timer_start ≥ timer_len` (10_state.md R37). -/
def elapsed (s : State) : Bool := s.timerArmed && decide (s.timerLen ≤ s.now - s.timerStart)

/-- `suppress = 1 ∧ now ⊖ last_pulse_ts > DEC_TIMEOUT`, strict (40_decoder.md R119). -/
def timedOut (s : State) : Bool := s.suppress && decide (s.cfg.decTimeout < s.now - s.lastPulseTs)

/-- `ext_ts_valid = 1 ∧ now ⊖ ext_ts < COLOR_MODE_CHANGE_TIME`, strict (42_state_entry.md R171, R175). -/
def quickReignite (s : State) : Bool :=
  s.extTsValid && decide (s.now - s.extTs < s.cfg.colorModeChangeTime)

/-- The guard of a set-color: the blade is settled, `state ∈ {Idle, Off}` (41_commands.md R151). -/
def settled (s : State) : Bool :=
  match s.state with
  | .idle | .off => true
  | _ => false

/-- The wheel-cycle modes (10_state.md R32). -/
def ColorMode.cycles : ColorMode → Bool
  | .wheelCycle | .wheelCycleWhite => true
  | _ => false

/-- The Off tick would call `RequestSleep` (43_tick.md R207). -/
def sleepDue (s : State) : Bool :=
  match s.state with
  | .off => elapsed s
  | _ => false

/-- The duties of a pass's time (44_loop.md R249): after the first pass, `now` is not before the last pass nor before
the wake time the last `RequestSleep` returned, and less than 2^31 after the last pass. Times are 32-bit, so "not
before" is read modulo 2^32 within half the range (log entry 12). -/
def timeDutyKept (now : Time) (s : State) : Bool :=
  decide (s.state = .uninitialized) ||
    (decide ((now - s.now).toNat < 2 ^ 31) && decide ((s.awakeAt - s.now).toNat ≤ (now - s.now).toNat))

/-- The duty of the wake time, `w ≥ now` (R249), read as `timeDutyKept` reads it (log entry 12). -/
def wakeDutyKept (now wake : Time) : Bool := decide ((wake - now).toNat < 2 ^ 31)

/-- Phase 4 presents: `dirty = 1 ∧ suppress = 0` (44_loop.md R245). -/
def presentDue (s : State) : Bool := s.dirty && !s.suppress

/-- `state` is one of the two pre-ignition states (R31). -/
def preIgnition (s : State) : Bool :=
  match s.state with
  | .uninitialized | .off => true
  | _ => false

/-- The fault a model that finds the state has: a reserved code (R30, R32) or no profile outside the pre-ignition
states (R31; 92 D45). -/
def foundFault (s : State) : Option Fault :=
  if s.state.legal = false then some .reservedState
  else if s.colorMode.legal = false then some .reservedColorMode
  else if s.profValid = false ∧ preIgnition s = false then some .profileMissing
  else none

end Sys2Proof.Machine
end

