-- ==== Sys2Proof/Machine/Decoder.lean ====
section
/-! DEFINITION. The hilt protocol decoder: one decode pass (40_decoder.md R110 to R119). -/

namespace Sys2Proof.Machine

/-- The class of a pulse (30_encoding.md R91). -/
inductive PulseClass where
  | bit0
  | bit1
  | preamble
  | resync
  deriving DecidableEq, Repr

/-- `Class(d)`: both boundaries belong to the upper class, the preamble band is inclusive (R91). -/
def classify (cfg : Config) (d : Time) : PulseClass :=
  if d < cfg.split then .bit0
  else if d < cfg.cutoff then .bit1
  else if cfg.preambleLo ≤ d ∧ d ≤ cfg.preambleHi then .preamble
  else .resync

/-- The accumulator emptied, `acc <- 0; nbits <- 0`, and the flag set as given (R112, R113, R119). -/
def emptyDecoder (flag : Bool) (s : State) : State := { s with acc := 0#8, nbits := 0#3, suppress := flag }

/-- `ResyncPulse(d)` (R112). -/
def resyncPulse (d : Time) (s : State) : State := emit (.resync d) (emptyDecoder false s)

/-- `PreamblePulse(d)` (R113). -/
def preamblePulse (d : Time) (s : State) : State := emit (.preamble d) (emptyDecoder true s)

/-- `FinalBit(a)`: the eighth bit publishes the byte (R116). The accumulator keeps it. -/
def finalBit (a : Byte) (s : State) : State × Option Byte :=
  (emit (.command a) { s with nbits := 0#3, suppress := false }, some a)

/-- `((acc << 1) | b) mod 256` (R114). -/
def shiftIn (acc : Byte) (b : Bool) : Byte := (acc <<< 1) ||| (if b then 1#8 else 0#8)

/-- `BitPulse(b)` (R114, R115): shift the bit in, then count it or publish. -/
def bitPulse (b : Bool) (s : State) : State × Option Byte :=
  let a := shiftIn s.acc b
  if s.nbits = 7#3 then finalBit a { s with acc := a }
  else ({ s with acc := a, nbits := s.nbits + 1#3, suppress := true }, none)

/-- `TimeoutCheck()` (R119). -/
def timeoutCheck (s : State) : State := if timedOut s then emit .timeout (emptyDecoder false s) else s

/-- A consumed pulse: its time, then its class's operation (R111, R118). -/
def consumePulse (d : Time) (s : State) : State × Option Byte :=
  let t := { s with lastPulseTs := s.now }
  match classify s.cfg d with
  | .resync => (resyncPulse d t, none)
  | .preamble => (preamblePulse d t, none)
  | .bit0 => bitPulse false t
  | .bit1 => bitPulse true t

/-- `DecodePass()`: at most one pulse taken, at most one byte published; the timeout is checked only where no pulse was
taken (R110, R111). -/
def decodePass (s : State) : State × Option Byte :=
  match take s with
  | (t, some d) => consumePulse d t
  | (t, none) => (timeoutCheck t, none)

end Sys2Proof.Machine
end

