-- ==== Sys2Proof/Machine/Entry.lean ====
section
/-! DEFINITION. Entering a state: on-entry behaviour, the colour derivation and the colour-mode advance
(42_state_entry.md R170 to R184). Chains run to their end inside the rule that starts them (R184). -/

namespace Sys2Proof.Machine

/-- `state <- S`, the first half of `Enter(S)` (R170). -/
def setState (b : BladeState) (s : State) : State := { s with state := b }

/-- `Next(m)` (R175). A reserved code, which `step` faults on before any rule runs, keeps its value (log entry 7). -/
def nextMode : ColorMode → ColorMode
  | .stock => .wheelCycle
  | .wheelCycle => .wheelHold
  | .wheelCycleWhite => .wheelHoldWhite
  | .wheelHold => .wheelHoldWhite
  | .wheelHoldWhite => .stock
  | .reserved k => .reserved k

/-- `Derive()` (R176). Under a reserved colour mode, which `step` faults on before any rule runs, the colours keep
their values (log entry 7). -/
def derive (s : State) : State :=
  match s.colorMode with
  | .stock =>
    { s with primaryColor := colorOf s.cfg (activeProfile s).colorIndex, clashColor := Rgb.white }
  | .wheelCycle | .wheelHold => { s with primaryColor := wheel s.wheelIndex, clashColor := Rgb.white }
  | .wheelCycleWhite | .wheelHoldWhite => { s with primaryColor := Rgb.white, clashColor := Rgb.yellow }
  | .reserved _ => s

/-- Step 1 of Igniting's entry: a quick re-ignite advances the colour mode (R171, R175). -/
def advanceMode (s : State) : State :=
  if quickReignite s then { s with colorMode := nextMode s.colorMode } else s

/-- The LED power output driven to a level, where the gate exists, with its record (R171, R172; 10_state.md R42). -/
def setPower (level : Bool) (s : State) : State :=
  if s.cfg.hasPowerGate then emit (.power level) { s with ledPower := level } else s

/-- `anim_count <- n`. -/
def setAnimCount (n : Nat) (s : State) : State := { s with animCount := n }

/-- `Enter(Igniting)` (R171): the eight steps in order. -/
def enterIgniting (s : State) : State :=
  let s := derive (advanceMode (setState .igniting s))
  let s := fillAll Rgb.black (setPower true s)
  let s := markDirty (setBrightness 255#8 s)
  setAnimCount 0 (armTimer (activeProfile s).ignitionTime s)

/-- `Enter(Off)` (R172). Its flush is phase 4's present. -/
def enterOff (s : State) : State :=
  let s := markDirty (fillAll Rgb.black (setState .off s))
  armTimer s.cfg.sleepIdleTime (setPower false s)

/-- `Enter(Idle)` (R174): in a wheel-cycle mode the wheel timer is armed, unless a timer is. -/
def enterIdle (s : State) : State :=
  let s := setState .idle s
  if s.colorMode.cycles = true ∧ s.timerArmed = false then armTimer (wheelPeriod s.cfg s.colorMode) s else s

/-- `Enter(On)`: a pass-through to Idle (R173). -/
def enterOn (s : State) : State := enterIdle (setState .on s)

/-- `Enter(Clash)` (R177). -/
def enterClash (s : State) : State :=
  let s := setState .clash s
  armTimer s.cfg.clashTime (markDirty (fillAll s.clashColor s))

/-- `Enter(Extinguishing)` (R178). -/
def enterExtinguishing (s : State) : State :=
  let s := { setState .extinguishing s with extTs := s.now, extTsValid := true, extPhase := .delay }
  armTimer (activeProfile s).extinguishDelay (setAnimCount 0 s)

/-- `Enter(Refresh)` (R179): refill with the primary colour, re-derived in Stock only, then On and Idle. -/
def enterRefresh (s : State) : State :=
  let s := setState .refresh s
  let s := if s.colorMode = .stock then derive s else s
  enterOn (markDirty (setBrightness 255#8 (fillAll s.primaryColor s)))

/-- The common steps of both flicker entries: the level, then the flicker timer (R181). -/
def startFlicker (level : Byte) (s : State) : State :=
  armTimer s.cfg.flickerTime (markDirty (setBrightness level s))

/-- `Enter(FlickerLow)`: the level comes from the low nibble of `last_command` (R181). -/
def enterFlickerLow (s : State) : State :=
  startFlicker (flickerLevelLow (paramOf s.lastCommand)) (setState .flickerLow s)

/-- `Enter(FlickerHigh)` (R182). -/
def enterFlickerHigh (s : State) : State :=
  startFlicker (flickerLevelHigh (paramOf s.lastCommand)) (setState .flickerHigh s)

/-- `Enter(S)` (R170). Uninitialized has no on-entry behaviour and no rule enters it (R183); no rule enters a reserved
code (10_state.md R30). -/
def enter (b : BladeState) (s : State) : State :=
  match b with
  | .uninitialized => setState .uninitialized s
  | .off => enterOff s
  | .igniting => enterIgniting s
  | .on => enterOn s
  | .idle => enterIdle s
  | .clash => enterClash s
  | .extinguishing => enterExtinguishing s
  | .refresh => enterRefresh s
  | .flickerLow => enterFlickerLow s
  | .flickerHigh => enterFlickerHigh s
  | .reserved k => setState (.reserved k) s

/-- A command that needs an active profile: taken into a state, or dropped with its record (41_commands.md R145 to
R148, R153, R154; 90 C2). -/
def enterWithProfile (b : BladeState) (c : Byte) (s : State) : State :=
  if s.profValid then enter b s else emit (.dropped c .noProfile) s

/-- A set-color: taken in Idle and Off, elsewhere dropped with the record of the state it met (R151, R152). -/
def setColor (fam : Family) (p : Nibble) (c : Byte) (s : State) : State :=
  if settled s then enter .refresh (selectProfile fam p s) else emit (.dropped c (.guard s.state)) s

end Sys2Proof.Machine
end

