-- ==== Sys2Proof/Machine/Clash.lean ====
section
/-! DEFINITION. The clash commands CLASH_C and CLASH_D (41_commands.md R153, R154): dropped without a profile. -/

namespace Sys2Proof.Machine

/-- CLASH_C (R153). -/
def execClashC (p : Nibble) (s : State) : Host.Outcome State Fault Refusal :=
  let c := encodeByte (.clashC p)
  let s := recordCommand c s
  .next (enterWithProfile .clash c s)

/-- CLASH_D (R154). -/
def execClashD (p : Nibble) (s : State) : Host.Outcome State Fault Refusal :=
  let c := encodeByte (.clashD p)
  let s := recordCommand c s
  .next (enterWithProfile .clash c s)

end Sys2Proof.Machine
end

