-- ==== Sys2Proof/Machine/Extinguish.lean ====
section
/-! DEFINITION. The extinguish commands EXTINGUISH_4 and EXTINGUISH_5 (41_commands.md R145, R146): dropped without a profile. -/

namespace Sys2Proof.Machine

/-- EXTINGUISH_4 (R145). -/
def execExtinguish4 (p : Nibble) (s : State) : Host.Outcome State Fault Refusal :=
  let c := encodeByte (.extinguish4 p)
  let s := recordCommand c s
  .next (enterWithProfile .extinguishing c s)

/-- EXTINGUISH_5 (R146). -/
def execExtinguish5 (p : Nibble) (s : State) : Host.Outcome State Fault Refusal :=
  let c := encodeByte (.extinguish5 p)
  let s := recordCommand c s
  .next (enterWithProfile .extinguishing c s)

end Sys2Proof.Machine
end

