-- ==== Sys2Proof/Machine/Flicker.lean ====
section
/-! DEFINITION. The flicker commands FLICKER_LO and FLICKER_HI (41_commands.md R147, R148): dropped without a profile; the level
reaches the on-entry behaviour through `last_command`. -/

namespace Sys2Proof.Machine

/-- FLICKER_LO (R147). -/
def execFlickerLo (p : Nibble) (s : State) : Host.Outcome State Fault Refusal :=
  let c := encodeByte (.flickerLo p)
  let s := recordCommand c s
  .next (enterWithProfile .flickerLow c s)

/-- FLICKER_HI (R148). -/
def execFlickerHi (p : Nibble) (s : State) : Host.Outcome State Fault Refusal :=
  let c := encodeByte (.flickerHi p)
  let s := recordCommand c s
  .next (enterWithProfile .flickerHigh c s)

end Sys2Proof.Machine
end

