-- ==== Sys2Proof/Machine/Ignite.lean ====
section
/-! DEFINITION. The ignite commands IGNITE_A and IGNITE_B (41_commands.md R143, R144): no guard. -/

namespace Sys2Proof.Machine

/-- IGNITE_A (R143): profile (A, p) is selected before the on-entry behaviour. -/
def execIgniteA (p : Nibble) (s : State) : Host.Outcome State Fault Refusal :=
  let s := recordCommand (encodeByte (.igniteA p)) s
  .next (enter .igniting (selectProfile .a p s))

/-- IGNITE_B (R144): profile (B, p). -/
def execIgniteB (p : Nibble) (s : State) : Host.Outcome State Fault Refusal :=
  let s := recordCommand (encodeByte (.igniteB p)) s
  .next (enter .igniting (selectProfile .b p s))

end Sys2Proof.Machine
end

