-- ==== Sys2Proof/Machine/Nop.lean ====
section
/-! DEFINITION. The unrecognised commands NOP_0 and NOP_1 (41_commands.md R141, R142): a record and nothing else. -/

namespace Sys2Proof.Machine

/-- NOP_0 (R141). -/
def execNop0 (p : Nibble) (s : State) : Host.Outcome State Fault Refusal :=
  let c := encodeByte (.nop0 p)
  let s := recordCommand c s
  .next (emit (.unrecognized c) s)

/-- NOP_1 (R142). -/
def execNop1 (p : Nibble) (s : State) : Host.Outcome State Fault Refusal :=
  let c := encodeByte (.nop1 p)
  let s := recordCommand c s
  .next (emit (.unrecognized c) s)

end Sys2Proof.Machine
end

