-- ==== Sys2Proof/Machine/Off.lean ====
section
/-! DEFINITION. The off commands OFF_8, OFF_9, OFF_E and OFF_F (41_commands.md R149, R150, R155, R156): taken in every state. -/

namespace Sys2Proof.Machine

/-- OFF_8 (R149). -/
def execOff8 (p : Nibble) (s : State) : Host.Outcome State Fault Refusal :=
  let s := recordCommand (encodeByte (.off8 p)) s
  .next (enter .off s)

/-- OFF_9 (R150). -/
def execOff9 (p : Nibble) (s : State) : Host.Outcome State Fault Refusal :=
  let s := recordCommand (encodeByte (.off9 p)) s
  .next (enter .off s)

/-- OFF_E (R155). -/
def execOffE (p : Nibble) (s : State) : Host.Outcome State Fault Refusal :=
  let s := recordCommand (encodeByte (.offE p)) s
  .next (enter .off s)

/-- OFF_F (R156). -/
def execOffF (p : Nibble) (s : State) : Host.Outcome State Fault Refusal :=
  let s := recordCommand (encodeByte (.offF p)) s
  .next (enter .off s)

end Sys2Proof.Machine
end

