-- ==== Sys2Proof/Machine/SetColor.lean ====
section
/-! DEFINITION. The set-color commands SETCOLOR_A and SETCOLOR_B (41_commands.md R151, R152): taken in Idle and Off only. -/

namespace Sys2Proof.Machine

/-- SETCOLOR_A (R151). -/
def execSetcolorA (p : Nibble) (s : State) : Host.Outcome State Fault Refusal :=
  let c := encodeByte (.setcolorA p)
  let s := recordCommand c s
  .next (setColor .a p c s)

/-- SETCOLOR_B (R152). -/
def execSetcolorB (p : Nibble) (s : State) : Host.Outcome State Fault Refusal :=
  let c := encodeByte (.setcolorB p)
  let s := recordCommand c s
  .next (setColor .b p c s)

end Sys2Proof.Machine
end

