-- ==== Sys2Proof/Machine/Dispatch.lean ====
section
/-! DEFINITION. `Dispatch(c)` by instruction (41_commands.md R140): one arm per constructor, each one call of a meaning.
Every meaning writes `last_command` first. -/

namespace Sys2Proof.Machine

def exec (i : Instr) (s : State) : Host.Outcome State Fault Refusal :=
  match i with
  | .nop0 p => Sys2Proof.Machine.execNop0 p s
  | .nop1 p => Sys2Proof.Machine.execNop1 p s
  | .igniteA p => Sys2Proof.Machine.execIgniteA p s
  | .igniteB p => Sys2Proof.Machine.execIgniteB p s
  | .extinguish4 p => Sys2Proof.Machine.execExtinguish4 p s
  | .extinguish5 p => Sys2Proof.Machine.execExtinguish5 p s
  | .flickerLo p => Sys2Proof.Machine.execFlickerLo p s
  | .flickerHi p => Sys2Proof.Machine.execFlickerHi p s
  | .off8 p => Sys2Proof.Machine.execOff8 p s
  | .off9 p => Sys2Proof.Machine.execOff9 p s
  | .setcolorA p => Sys2Proof.Machine.execSetcolorA p s
  | .setcolorB p => Sys2Proof.Machine.execSetcolorB p s
  | .clashC p => Sys2Proof.Machine.execClashC p s
  | .clashD p => Sys2Proof.Machine.execClashD p s
  | .offE p => Sys2Proof.Machine.execOffE p s
  | .offF p => Sys2Proof.Machine.execOffF p s

end Sys2Proof.Machine
end

