-- ==== Sys2Proof/Machine/Tick.lean ====
section
/-! DEFINITION. Per-tick behaviour: the animations, the timed effects, the colour wheel and the Off tick that asks for
sleep (43_tick.md R200 to R218). -/

namespace Sys2Proof.Machine

/-- An animation's progress: where the target passed the count, mark dirty and take the target as the count (step 3 of
R203 and of R205). -/
def progress (t : Nat) (s : State) : State := if s.animCount < t then setAnimCount t (markDirty s) else s

/-- The Igniting tick, while the timer is armed (R203): light the newly reached logical pixels; on the full strip clear
the timer and enter On. The strip is full by R202's rounding, up to half a step before the ignition time R216 names
(DEDUCED, log entry 32). -/
def ignitingTick (s : State) : State :=
  if s.timerArmed then
    let t := animTarget s
    let s := progress t (lightUp s.primaryColor s.animCount (t - s.animCount) s)
    if t = nLog s.cfg then enter .on (clearTimer s) else s
  else s

/-- The Extinguishing tick in its animation phase, while the timer is armed (R205): darken from the tip; on the full
strip clear the timer and enter Off. The strip is dark by R202's rounding, up to half a step before the extinguish time
R216 names (DEDUCED, log entry 32). -/
def extAnimTick (s : State) : State :=
  if s.timerArmed then
    let j := animTarget s
    let s := progress j (darken s.animCount (j - s.animCount) s)
    if j = nLog s.cfg then enter .off (clearTimer s) else s
  else s

/-- The Extinguishing tick in its delay phase, once the delay elapsed (R204): the animation starts now, and its tick
runs in the same pass. -/
def extDelayTick (s : State) : State :=
  if elapsed s then
    extAnimTick
      { s with extPhase := .anim, timerStart := s.now, timerLen := (activeProfile s).extinguishTime }
  else s

/-- The Off tick, once the sleep timer elapsed (R207): ask for sleep, then re-arm the same timer from the wake time. -/
def offTick (s : State) : State :=
  if elapsed s then
    let r := requestSleep (emit .sleep s)
    { r.1 with timerStart := r.2 }
  else s

/-- `WheelAdvance()` (R214). -/
def wheelAdvance (s : State) : State :=
  let w := s.wheelIndex + s.cfg.wheelStep
  let s := { s with wheelIndex := w, primaryColor := wheel w }
  let s := markDirty (fillAll s.primaryColor s)
  { s with timerStart := s.now, timerLen := wheelPeriod s.cfg s.colorMode }

/-- The Idle tick: in the wheel-cycle modes, once the timer elapsed (R208). -/
def idleTick (s : State) : State :=
  if s.colorMode.cycles = true ∧ elapsed s = true then wheelAdvance s else s

/-- `ClashToggle()`: only the wheel-cycle modes toggle (R210). -/
def clashToggle (s : State) : State :=
  match s.colorMode with
  | .wheelCycle => derive { s with colorMode := .wheelCycleWhite }
  | .wheelCycleWhite => derive { s with colorMode := .wheelCycle }
  | _ => s

/-- The Clash tick, once the timer elapsed (R209). -/
def clashTick (s : State) : State :=
  if elapsed s then
    let s := clashToggle s
    enter .idle (clearTimer (markDirty (fillAll s.primaryColor s)))
  else s

/-- What both flicker ticks do, once the timer elapsed: dim by 20 %, clear the timer, enter Idle (R212). -/
def endFlicker (s : State) : State :=
  if elapsed s then enter .idle (clearTimer (markDirty (setBrightness (dim s.brightness) s))) else s

/-- The FlickerLow tick (R212). -/
def flickerLowTick (s : State) : State := endFlicker s

/-- The FlickerHigh tick (R213). -/
def flickerHighTick (s : State) : State := endFlicker s

/-- `Tick()`: one tick rule, chosen by the state as phase 2 left it (R200). Uninitialized, On and Refresh have no tick
(R217); a reserved code is a fault before any tick (log entry 7). -/
def tick (s : State) : State :=
  match s.state with
  | .igniting => ignitingTick s
  | .extinguishing =>
    match s.extPhase with
    | .delay => extDelayTick s
    | .anim => extAnimTick s
  | .off => offTick s
  | .idle => idleTick s
  | .clash => clashTick s
  | .flickerLow => flickerLowTick s
  | .flickerHigh => flickerHighTick s
  | .uninitialized | .on | .refresh | .reserved _ => s

end Sys2Proof.Machine
end

