-- ==== Sys2Proof/Machine/Pass.lean ====
section
/-! DEFINITION. The scheduler pass and its phases (44_loop.md R241 to R245), the stimuli that drive it (R240), and the
stimulus notation of test programs (30_encoding.md R100, R101). -/

namespace Sys2Proof.Machine

/-- The pass's inputs, constant within it (R241, 00_scope.md R12). The loop is awake at `now`, and the last pass's
present is past (log entry 10). -/
def latchInputs (now wake : Time) (s : State) : State :=
  { s with now := now, wake := wake, awakeAt := now, window := s.window.passStarted }

/-- Phase 0: the first pass leaves Uninitialized for Off (R242). -/
def resetExit (s : State) : State :=
  match s.state with
  | .uninitialized => enter .off s
  | _ => s

/-- Phase 2: a published byte is dispatched, in the same pass (R243; 41_commands.md R140). -/
def dispatchPublished (cmd : Option Byte) (s : State) : Host.Outcome State Fault Refusal :=
  match cmd with
  | none => .next s
  | some c => exec (decodeByte c) s

/-- Phase 4: present exactly when dirty and not suppressed, and then the strip is clean (R245). Suppression covers the
pulses to come: none of them overlaps an earlier present (70_reset_and_hazards.md R293; log entry 10). -/
def presentPhase (s : State) : State :=
  if presentDue s then { present s with dirty := false }
  else if s.suppress then { s with window := .shut }
  else s

/-- Phases 0 and 1 of a pass: the state phase 2 finds, and the byte published to it. -/
def fetchPhases (now wake : Time) (s : State) : State × Option Byte :=
  decodePass (resetExit (latchInputs now wake s))

/-- Phases 3 and 4 of a pass. -/
def finishPhases (s : State) : State := presentPhase (tick s)

/-- `Pass(now, w)` (R241): reset exit, decode, dispatch, tick, present. -/
def runPass (now wake : Time) (s : State) : Host.Outcome State Fault Refusal :=
  let r := fetchPhases now wake s
  match dispatchPublished r.2 r.1 with
  | .next t => .next (finishPhases t)
  | .fault f => .fault f
  | .refused r => .refused r

/-- The next thing the environment does: the head of the queue, or a free draw where nothing is queued (log
entry 2). -/
def nextStimulus (s : State) : Stimulus × State :=
  match s.stim with
  | x :: rest => (x, { s with stim := rest })
  | [] => (Config.freeStimulus s.draws, { s with draws := s.draws + 1 })

/-- One event: a delivery by the capture, or a pass of the loop (R240, R247). -/
def runStimulus (x : Stimulus) (s : State) : Host.Outcome State Fault Refusal :=
  match x with
  | .deliver d => .next (deliver d s)
  | .overlapped => .next (deliverOverlapped s)
  | .pass now wake => runPass now wake s

/-- The pass calls `RequestSleep`: the state phase 2 leaves is Off with its timer elapsed (43_tick.md R207). -/
def callsSleep (now wake : Time) (s : State) : Bool :=
  let r := fetchPhases now wake s
  match dispatchPublished r.2 r.1 with
  | .next t => sleepDue t
  | .fault _ | .refused _ => false

/-- The pulse waiting in the slot raises suppression when it is taken: it is a bit or a preamble (40_decoder.md R113,
R115). -/
def slotSuppresses (s : State) : Bool := s.slotValid && decide (classify s.cfg s.slotDur ≠ .resync)

/-- A pulse can have overlapped a present: there is one it can have overlapped (20_memory.md R83), and it is neither a
bit after a command's first, nor any bit after a preamble (70_reset_and_hazards.md R293; log entry 10). -/
def overlapAdmitted (s : State) : Bool := decide (s.window ≠ .shut) && !slotSuppresses s

/-- Why a stimulus is none of a run of the block, if it is not (44_loop.md R249, 93 U19; 20_memory.md R83;
70_reset_and_hazards.md R293). The wake time is bound only where the pass uses it (R241). A delivery is always admitted:
an overrun is `OVERRUN`'s (R249). -/
def brokenDuty (x : Stimulus) (s : State) : Option Refusal :=
  match x with
  | .deliver _ => none
  | .overlapped => if overlapAdmitted s then none else some .overlapWithoutPresent
  | .pass now wake =>
    if timeDutyKept now s then
      if callsSleep now wake s && !wakeDutyKept now wake then some .wakeDuty else none
    else some .timeDuty

/-- The duration that carries a bit: under a well-formed configuration 0 is a BIT0 and `SPLIT` a BIT1 (R91). -/
def bitDuration (cfg : Config) (b : Bool) : Time := if b then cfg.split else 0#32

/-- The state in which the next pulse taken completes the byte c: its bits 7 to 1 accumulated, its bit 0 in the slot
(40_decoder.md R114, R116; R92). `suppress` and `window` are what seven accumulated bits leave (R115; log entry 10),
`wakeOwed` what a delivery leaves. -/
def loadCommand (c : Byte) (s : State) : State :=
  { s with
    acc := c >>> 1
    nbits := 7#3
    suppress := true
    wakeOwed := false
    window := .shut
    slotValid := true
    slotDur := bitDuration s.cfg (c.getLsbD 0) }

/-- The bits of a byte in wire order, most significant first (30_encoding.md R92). -/
def wireBits (c : Byte) : List Bool :=
  [c.getLsbD 7, c.getLsbD 6, c.getLsbD 5, c.getLsbD 4, c.getLsbD 3, c.getLsbD 2, c.getLsbD 1, c.getLsbD 0]

/-- The canonical durations of test encodings: BIT0 = 1000, BIT1 = 2000 (R101). -/
def canonicalBit (b : Bool) : Time := if b then 2000#32 else 1000#32

/-- The canonical RESYNC duration (R101). -/
def canonicalResync : Time := 5000#32

/-- The canonical PREAMBLE duration (R101). -/
def canonicalPreamble : Time := 16000#32

/-- `PASS t` (R100) with the wake draw w: that of a `WAKE w` line before it. DESIGN CHOICE: R100 gives a pass without
such a line no draw and 93 U16 allows any `w ≥ t`, so w stays the writer's choice (log entry 31). -/
def stimPass (t w : Time) : List Stimulus := [.pass t w]

/-- `PULSE d @ t`: a delivery, then `PASS t` (R100), with the wake draw w of that pass, as for `stimPass` (log
entry 31). -/
def stimPulse (d t w : Time) : List Stimulus := .deliver d :: stimPass t w

/-- `PULSE` lines at t, t + 1, ..., one per bit. DESIGN CHOICE: the wake draw of each pass is its own time, the least
that 93 U16 allows; with a `WAKE` line, the pulses are written one by one (log entry 31). -/
def stimBits : List Bool → Time → List Stimulus
  | [], _ => []
  | b :: bs, t => stimPulse (canonicalBit b) t t ++ stimBits bs (t + 1#32)

/-- `SEND c @ t` (R100), with the wake draws of `stimBits` (log entry 31). -/
def stimSend (c : Byte) (t : Time) : List Stimulus := stimBits (wireBits c) t

/-- `SEND! c @ t`: a preamble at t, then `SEND c @ t+1` (R100), with the wake draws of `stimBits` (log entry 31). -/
def stimSendAfterPreamble (c : Byte) (t : Time) : List Stimulus :=
  stimPulse canonicalPreamble t t ++ stimSend c (t + 1#32)

end Sys2Proof.Machine
end

