-- ==== Sys2Proof/Machine/Step.lean ====
section
/-! DEFINITION. One step of the machine: an ill-formed configuration is refused, an impossible state is a fault, a
stimulus that is none of a run of the block is refused, and otherwise the next stimulus acts (44_loop.md R240, R241,
R247, R249). And the placing of an instruction where the next step runs it. -/

namespace Sys2Proof.Machine

/-- One step: the configuration check (93 U18), the fault check (92 D45), the duties (93 U19), then one event. -/
def step (s : State) : Host.Outcome State Fault Refusal :=
  if s.cfg.wf then
    match foundFault s with
    | some f => .fault f
    | none =>
      let r := nextStimulus s
      match brokenDuty r.1 r.2 with
      | some b => .refused b
      | none => runStimulus r.1 r.2
  else .refused .illFormedConfig

/-- `s` with the command byte `w` about to be published: its first seven bits accumulated, the eighth in the slot, and
a pass at the time the loop is awake since, the earliest R249 allows, as the next stimulus (log entries 2, 31). DESIGN
CHOICE: the wake draw of that pass is the same time. -/
def State.withFetchWord (s : State) (nbits w : Nat) : State :=
  let t := loadCommand (BitVec.ofNat 8 (w % 2 ^ nbits)) s
  { t with stim := .pass s.awakeAt s.awakeAt :: s.stim }

end Sys2Proof.Machine
end

