-- ==== Sys2Proof/Safety.lean ====
section
/-! DEFINITION. What a safe run is: the step answers a next state and keeps the invariants. The invariants of the spec
(10_state.md R25, R31, R40; 43_tick.md R206; 60_exceptions.md R264, R273; 70_reset_and_hazards.md R293), what a run is
(44_loop.md R250), and the environment's duties (R249): those `step` refuses to see broken, the two that `Run` has, and
the two a claim may assume, the empty slot and the short timers (log entries 12, 16). -/

namespace Sys2Proof.Machine

/-- The state's timed effects and animations: the states whose exit is a timer's (10_state.md R30). -/
def BladeState.timed : BladeState → Bool
  | .off | .igniting | .clash | .extinguishing | .flickerLow | .flickerHigh => true
  | _ => false

/-- The pass-through states, which stand only inside a pass (10_state.md R30). -/
def BladeState.passThrough : BladeState → Bool
  | .on | .refresh => true
  | _ => false

/-- What holds between events. -/
structure Invariants (s : State) : Prop where
  /-- The configuration is one the spec admits (00_scope.md R6, R7). -/
  config : s.cfg.wf = true
  /-- `state` is at a code the rules write (R30). -/
  stateLegal : s.state.legal = true
  /-- On and Refresh are never observed between passes (R30). -/
  notPassing : s.state.passThrough = false
  /-- `color_mode` is at a code the rules write (R32). -/
  modeLegal : s.colorMode.legal = true
  /-- There is an active profile outside the two pre-ignition states (R31). -/
  profile : preIgnition s = false → s.profValid = true
  /-- `nbits ≠ 0 ⇒ suppress = 1` (R25). -/
  decoder : s.nbits ≠ 0#3 → s.suppress = true
  /-- The sink buffer has one entry per physical pixel (20_memory.md R65). -/
  strip : s.fb.length = s.cfg.nPixels
  /-- `anim_count ≤ N_LOG` (R40). -/
  count : s.animCount ≤ nLog s.cfg
  /-- Without a power gate the output is held at 0 (R42). -/
  gate : s.cfg.hasPowerGate = false → s.ledPower = false
  /-- The LED power is off in the pre-ignition states (60_exceptions.md R273). -/
  darkPower : preIgnition s = true → s.ledPower = false
  /-- In a timed state the timer runs, so that the state is left at some later pass. -/
  timer : s.state.timed = true → s.timerArmed = true
  /-- What was not presented is held back by suppression alone (44_loop.md R245). -/
  held : s.dirty = true → s.suppress = true
  /-- The loop is awake since less than half the range of time after the last pass (44_loop.md R249). -/
  awake : (s.awakeAt - s.now).toNat < 2 ^ 31
  /-- Suppression covers the pulses to come: none of them overlaps a present (70_reset_and_hazards.md R293). -/
  cover : s.suppress = true → s.window = .shut
  /-- Until the edge that ended a sleep is delivered the block stays Off with an empty slot, so no command comes before
  it (60_exceptions.md R264). -/
  edge : s.wakeOwed = true → s.state = .off ∧ s.slotValid = false

/-- The logical pixel that drives a physical pixel: the inverse of `Phys` (20_memory.md R65). -/
def logicalOf (cfg : Config) (j : Nat) : Nat := if cfg.mirrored then min j (cfg.nPixels - 1 - j) else j

/-- The animation regions of 43_tick.md R206, and the dark strip of Off. -/
structure Regions (s : State) : Prop where
  /-- In Igniting the lit logical pixels are exactly those below `anim_count`. -/
  igniting : s.state = .igniting → ∀ j < s.cfg.nPixels,
    s.fb[j]? = some (if logicalOf s.cfg j < s.animCount then s.primaryColor else Rgb.black)
  /-- In Extinguishing's delay nothing is darkened yet (42_state_entry.md R178). -/
  waiting : s.state = .extinguishing → s.extPhase = .delay → s.animCount = 0
  /-- In Extinguishing's animation the logical pixels from `N_LOG - anim_count` on are BLACK. -/
  darkening : s.state = .extinguishing → s.extPhase = .anim → ∀ j < s.cfg.nPixels,
    nLog s.cfg ≤ logicalOf s.cfg j + s.animCount → s.fb[j]? = some Rgb.black
  /-- In Off every pixel is BLACK. -/
  off : s.state = .off → s.fb = List.replicate s.cfg.nPixels Rgb.black

/-- A run of the block (44_loop.md R250): the states between events, one step apart, with the two duties that only a
whole run can show, which no step sees broken. -/
structure Run (r : Nat → State) : Prop where
  /-- Each state is the step of the one before, so no step breaks a duty that `step` refuses (R249, 93 U19). -/
  steps : ∀ n, step (r n) = .next (r (n + 1))
  /-- Passes keep coming (R249). -/
  passes : ∀ n, ∃ m, n ≤ m ∧ ∃ now wake, (nextStimulus (r m)).1 = .pass now wake
  /-- No waking edge is lost: an edge that ended a sleep is delivered at some later event, if no present takes it
  (60_exceptions.md R264, 20_memory.md R83; log entry 16). -/
  edges : ∀ n, (r n).wakeOwed = true → ∃ m, n ≤ m ∧ (r m).wakeOwed = false

/-- A safe state: the machine goes on. -/
def Safe (s : State) : Prop := ∃ t, step s = .next t

/-- The duties of the environment for the next stimulus (44_loop.md R249): it breaks none that `step` refuses, and a
delivery finds the slot empty, so that no pulse is lost. -/
def envDuty (s : State) (x : Stimulus) : Bool :=
  decide (brokenDuty x s = none) &&
    match x with
    | .pass _ _ => true
    | .deliver _ | .overlapped => !s.slotValid

/-- "Every timer length is below 2^31" (R249), for one profile. No step enforces it: 93 U19 does not list it among the
refused, and R249 gives what a longer timer does (log entry 12). -/
def Profile.timesShort (p : Profile) : Bool :=
  decide (p.ignitionTime.toNat < 2 ^ 31) && decide (p.extinguishDelay.toNat < 2 ^ 31) &&
    decide (p.extinguishTime.toNat < 2 ^ 31)

/-- "Every timer length is below 2^31" (R249), for a configuration. -/
def timersShort (c : Config) : Bool :=
  decide (c.clashTime.toNat < 2 ^ 31) && decide (c.flickerTime.toNat < 2 ^ 31) &&
    decide (c.sleepIdleTime.toNat < 2 ^ 31) && decide (c.wheelPeriod.toNat < 2 ^ 30) &&
    c.profileA.toList.all Profile.timesShort && c.profileB.toList.all Profile.timesShort

end Sys2Proof.Machine
end

