-- ==== Sys2Proof/Certificates/Slice0/Obligations.lean ====
section
/-! DEFINITION. The statements about the model, and the few functions that say, independently of the model, what a rule
expects. A statement about a state speaks of every state, of every configuration it may hold and of every free value. -/

namespace Sys2Proof.Claims

open Sys2Proof.Machine

/-- The byte whose bits, most significant first, are these (30_encoding.md R92). -/
def byteOfBits (b7 b6 b5 b4 b3 b2 b1 b0 : Bool) : Byte :=
  BitVec.ofNat 8 (128 * b7.toNat + 64 * b6.toNat + 32 * b5.toNat + 16 * b4.toNat + 8 * b3.toNat + 4 * b2.toNat +
    2 * b1.toNat + b0.toNat)

/-- The bytes that a run of bits makes, eight at a time; an incomplete rest makes none (R92, R93). -/
def bytesOfBits : List Bool → List Byte
  | b7 :: b6 :: b5 :: b4 :: b3 :: b2 :: b1 :: b0 :: rest =>
    byteOfBits b7 b6 b5 b4 b3 b2 b1 b0 :: bytesOfBits rest
  | _ => []

/-- What the decoder publishes when these pulses are taken in order, one per decode pass (40_decoder.md R110, R117). -/
def published : List Time → State → List Byte
  | [], _ => []
  | d :: ds, s =>
    let r := decodePass { s with slotValid := true, slotDur := d }
    r.2.toList ++ published ds r.1

/-- The resulting state of a row of 30_encoding.md R95, from a state, with or without an active profile. -/
def rowState (i : Instr) (b : BladeState) (hasProfile : Bool) : BladeState :=
  match i with
  | .nop0 _ | .nop1 _ => b
  | .igniteA _ | .igniteB _ => .igniting
  | .extinguish4 _ | .extinguish5 _ => if hasProfile then .extinguishing else b
  | .flickerLo _ => if hasProfile then .flickerLow else b
  | .flickerHi _ => if hasProfile then .flickerHigh else b
  | .off8 _ | .off9 _ | .offE _ | .offF _ => .off
  | .setcolorA _ | .setcolorB _ => if b = .idle ∨ b = .off then .idle else b
  | .clashC _ | .clashD _ => if hasProfile then .clash else b

/-- The moves a tick can make (41_commands.md R158). -/
def tickMove (b b' : BladeState) : Prop :=
  (b = .igniting ∧ b' = .idle) ∨ (b = .extinguishing ∧ b' = .off) ∨ (b = .clash ∧ b' = .idle) ∨
    (b = .flickerLow ∧ b' = .idle) ∨ (b = .flickerHigh ∧ b' = .idle)

/-- What the decode pass of the next event publishes; nothing where the event is no pass. -/
def nextCommand (s : State) : Option Byte :=
  match (nextStimulus s).1 with
  | .pass now wake => (fetchPhases now wake (nextStimulus s).2).2
  | .deliver _ | .overlapped => none

/-- The time of the next event: of its pass, or of the last pass where it is none. -/
def nextTime (s : State) : Time :=
  match (nextStimulus s).1 with
  | .pass now _ => now
  | .deliver _ | .overlapped => s.now

/-- A pass at this time keeps the duty of time (44_loop.md R249): it is the first, or it lies less than 2^31 after the
last pass and not before the wake time the last `RequestSleep` returned. -/
def timely (s : State) (now : Time) : Prop :=
  s.state = .uninitialized ∨
    ((now - s.now).toNat < 2 ^ 31 ∧ (s.awakeAt - s.now).toNat ≤ (now - s.now).toNat)

/-- A pass with these inputs asks for sleep: its decode and command leave the block Off with the timer elapsed
(43_tick.md R207). -/
def asksForSleep (s : State) (now wake : Time) : Prop :=
  ∃ u, dispatchPublished (fetchPhases now wake (nextStimulus s).2).2 (fetchPhases now wake (nextStimulus s).2).1 =
      .next u ∧ u.state = .off ∧ u.timerArmed = true ∧ u.timerLen ≤ now - u.timerStart

/-- A bit or a preamble waits in the slot (30_encoding.md R91): what arrives before it is taken is a later bit of its
command. -/
def heldBack (s : State) : Prop :=
  s.slotValid = true ∧
    (s.slotDur < s.cfg.cutoff ∨ (s.cfg.preambleLo ≤ s.slotDur ∧ s.slotDur ≤ s.cfg.preambleHi))

/-- The byte selects an ignite row (R143, R144). -/
def ignites (c : Byte) : Prop := famOf c = 0x2#4 ∨ famOf c = 0x3#4

/-- The byte selects a clash row (R153, R154). -/
def clashes (c : Byte) : Prop := famOf c = 0xC#4 ∨ famOf c = 0xD#4

/-- The byte selects an extinguish row (R145, R146). -/
def extinguishes (c : Byte) : Prop := famOf c = 0x4#4 ∨ famOf c = 0x5#4

/-- The byte selects an off row (R149, R150, R155, R156). -/
def turnsOff (c : Byte) : Prop := famOf c = 0x8#4 ∨ famOf c = 0x9#4 ∨ famOf c = 0xE#4 ∨ famOf c = 0xF#4

end Sys2Proof.Claims

open Sys2Proof Sys2Proof.Machine Sys2Proof.Claims

/-! ## Encoding -/

/-- 30_encoding.md R94, R95: the high nibble selects the row, the low nibble is its parameter, on every byte. The
mnemonics are the spec's labels (D39); the model's constructors stand for them (LAWS.json). -/
def Obligations.HighNibbleSelectsRow : Prop :=
  ∀ p : Nibble,
    decodeByte (0x0#4 ++ p) = .nop0 p ∧ decodeByte (0x1#4 ++ p) = .nop1 p ∧
    decodeByte (0x2#4 ++ p) = .igniteA p ∧ decodeByte (0x3#4 ++ p) = .igniteB p ∧
    decodeByte (0x4#4 ++ p) = .extinguish4 p ∧ decodeByte (0x5#4 ++ p) = .extinguish5 p ∧
    decodeByte (0x6#4 ++ p) = .flickerLo p ∧ decodeByte (0x7#4 ++ p) = .flickerHi p ∧
    decodeByte (0x8#4 ++ p) = .off8 p ∧ decodeByte (0x9#4 ++ p) = .off9 p ∧
    decodeByte (0xA#4 ++ p) = .setcolorA p ∧ decodeByte (0xB#4 ++ p) = .setcolorB p ∧
    decodeByte (0xC#4 ++ p) = .clashC p ∧ decodeByte (0xD#4 ++ p) = .clashD p ∧
    decodeByte (0xE#4 ++ p) = .offE p ∧ decodeByte (0xF#4 ++ p) = .offF p

/-- Words of 95_test_vectors.md section 2 (V24a to V24p), as the opcode table numbers them, decode to their rows. -/
def Obligations.TestVectorWordsDecode : Prop :=
  decodeTableWord 8 0x00 = some (.nop0 0x0#4) ∧ decodeTableWord 8 0x1F = some (.nop1 0xF#4) ∧
  decodeTableWord 8 0x2C = some (.igniteA 0xC#4) ∧ decodeTableWord 8 0x35 = some (.igniteB 0x5#4) ∧
  decodeTableWord 8 0x40 = some (.extinguish4 0x0#4) ∧ decodeTableWord 8 0x5A = some (.extinguish5 0xA#4) ∧
  decodeTableWord 8 0x68 = some (.flickerLo 0x8#4) ∧ decodeTableWord 8 0x7F = some (.flickerHi 0xF#4) ∧
  decodeTableWord 8 0x9C = some (.off9 0xC#4) ∧ decodeTableWord 8 0xA3 = some (.setcolorA 0x3#4) ∧
  decodeTableWord 8 0xD7 = some (.clashD 0x7#4) ∧ decodeTableWord 8 0xE0 = some (.offE 0x0#4)

/-- Decode and encode agree: for every instruction, decoding its encoding, whatever bytes follow, gives it back with
its operand and leaves exactly the bytes that follow. -/
def Obligations.DecodeOfEncodeIsIdentity : Prop :=
  ∀ (i : Instr) (rest : List Byte), i.WellFormed → decode (encode i ++ rest) = .ok (i, rest)

/-- 30_encoding.md R98: every byte decodes, and to the one instruction whose encoding it is; only the want of a byte
is refused. -/
def Obligations.EveryByteDecodesToItsOnlyInstruction : Prop :=
  (∀ (c : Byte) (rest : List Byte), ∃ i, decode (c :: rest) = .ok (i, rest) ∧ encode i = [c] ∧
    ∀ k, encode k = [c] → k = i) ∧
  decode [] = .error .noByte

/-! ## The decoder -/

/-- 30_encoding.md R91: under the constraints of R6 the four classes partition the durations, as its table says. The
inclusive band is the spec's decision D8. -/
def Obligations.PulseClassesPartition : Prop :=
  ∀ (cfg : Config) (d : Time), cfg.wf = true →
    (classify cfg d = .bit0 ↔ d < cfg.split) ∧
    (classify cfg d = .bit1 ↔ cfg.split ≤ d ∧ d < cfg.cutoff) ∧
    (classify cfg d = .preamble ↔ cfg.cutoff ≤ d ∧ cfg.preambleLo ≤ d ∧ d ≤ cfg.preambleHi) ∧
    (classify cfg d = .resync ↔ cfg.cutoff ≤ d ∧ ¬(cfg.preambleLo ≤ d ∧ d ≤ cfg.preambleHi))

/-- 20_memory.md R72: `Take()` reads and clears the slot as one action; it returns the duration once, and then none. -/
def Obligations.TakeReadsAndClearsSlot : Prop :=
  ∀ s : State,
    (s.slotValid = true → take s = ({ s with slotValid := false }, some s.slotDur)) ∧
    (s.slotValid = false → take s = (s, none)) ∧
    (take (take s).1).2 = none

/-- 20_memory.md R71: a delivery into an empty slot stores the pulse; into a full one OVERWRITE takes the new pulse,
DROP changes nothing, EITHER (the spec's D5) is one of the two. The draw counter and the notes that the pulse has ended
(no waking edge is owed, and only the last pass's present can overlap the next pulse) are the model's own (log entries 9,
10, 16). -/
def Obligations.DeliverStoresOrOverruns : Prop :=
  ∀ (s : State) (d : Time),
    let w : Window := if s.window = .latest then .latest else .shut
    (s.slotValid = false →
      deliver d s = { s with slotDur := d, slotValid := true, wakeOwed := false, window := w }) ∧
    (s.slotValid = true → s.cfg.overrun = .overwrite →
      deliver d s = { s with slotDur := d, wakeOwed := false, window := w }) ∧
    (s.slotValid = true → s.cfg.overrun = .drop → deliver d s = { s with wakeOwed := false, window := w }) ∧
    (s.slotValid = true → s.cfg.overrun = .either →
      deliver d s = { s with slotDur := d, draws := s.draws + 1, wakeOwed := false, window := w } ∨
      deliver d s = { s with draws := s.draws + 1, wakeOwed := false, window := w })

/-- 20_memory.md R83 (the spec's D6): a pulse that overlaps a present is not delivered, or delivered with some
duration; nothing else happens. The draw counter and the notes that the pulse has ended are the model's own (log entries
10, 16). -/
def Obligations.OverlappedPulseIsLostOrMismeasured : Prop :=
  ∀ s : State,
    deliverOverlapped s = { s with
      draws := s.draws + 1, wakeOwed := false, window := if s.window = .latest then .latest else .shut } ∨
    ∃ d, deliverOverlapped s = deliver d { s with draws := s.draws + 1 }

/-- 40_decoder.md R113: a PREAMBLE pulse taken empties the accumulator and raises suppression; nothing is published.
(The pulse's time stamp is left open here: R118 is the spec's decision D3.) -/
def Obligations.PreambleEmptiesAndSuppresses : Prop :=
  ∀ s : State, s.cfg.wf = true → s.slotValid = true →
    s.cfg.cutoff ≤ s.slotDur → s.cfg.preambleLo ≤ s.slotDur → s.slotDur ≤ s.cfg.preambleHi →
    ∃ ts, decodePass s = ({ s with
      slotValid := false, acc := 0x00#8, nbits := 0#3, suppress := true, lastPulseTs := ts,
      trace := s.trace ++ [.preamble s.slotDur] }, none)

/-- 40_decoder.md R112, R118: a RESYNC pulse taken discards the partial byte, drops suppression and stamps the time;
nothing is published. Clearing `acc` and the stamp are the spec's decisions D9 and D3. -/
def Obligations.ResyncDiscardsPartialByte : Prop :=
  ∀ s : State, s.cfg.wf = true → s.slotValid = true →
    s.cfg.cutoff ≤ s.slotDur → ¬(s.cfg.preambleLo ≤ s.slotDur ∧ s.slotDur ≤ s.cfg.preambleHi) →
    decodePass s = ({ s with
      slotValid := false, acc := 0x00#8, nbits := 0#3, suppress := false, lastPulseTs := s.now,
      trace := s.trace ++ [.resync s.slotDur] }, none)

/-- 40_decoder.md R114, R115, R116: a bit pulse taken shifts its bit (0 below SPLIT, else 1) into the accumulator
modulo 256; the first seven raise suppression and are counted; the eighth returns the count to 0, drops suppression
and publishes the byte. That the accumulator keeps the published byte is the spec's decision D9 (log entry 19). (The
time stamp is left open: R118 is the spec's decision D3.) -/
def Obligations.BitPulseShiftsInOrPublishes : Prop :=
  ∀ s : State, s.cfg.wf = true → s.slotValid = true → s.slotDur < s.cfg.cutoff →
    let a : Byte := BitVec.ofNat 8 (2 * s.acc.toNat + (if s.slotDur < s.cfg.split then 0 else 1))
    (s.nbits ≠ 7#3 → ∃ ts, decodePass s = ({ s with
      slotValid := false, acc := a, nbits := s.nbits + 1#3, suppress := true, lastPulseTs := ts }, none)) ∧
    (s.nbits = 7#3 → ∃ ts, decodePass s = ({ s with
      slotValid := false, acc := a, nbits := 0#3, suppress := false, lastPulseTs := ts,
      trace := s.trace ++ [.command a] }, some a))

/-- 40_decoder.md R119: without a pulse, the decoder is emptied exactly when it is suppressed and more than
DEC_TIMEOUT has passed since the last pulse, strictly; else nothing changes. The reference time is the spec's
decision D3. -/
def Obligations.TimeoutEmptiesDecoder : Prop :=
  ∀ s : State, s.slotValid = false →
    (s.suppress = true → s.cfg.decTimeout < s.now - s.lastPulseTs →
      decodePass s = ({ s with
        acc := 0x00#8, nbits := 0#3, suppress := false,
        trace := s.trace ++ [.timeout] }, none)) ∧
    (s.suppress = false ∨ s.now - s.lastPulseTs ≤ s.cfg.decTimeout → decodePass s = (s, none))

/-- 40_decoder.md R110, R118: the decode pass writes only the decoder's registers, the slot's flag and the trace, and
stamps the pass's time exactly when it takes a pulse (the stamp is the spec's decision D3). -/
def Obligations.DecodePassTouchesOnlyDecoder : Prop :=
  ∀ s : State, ∃ acc nbits suppress trace,
    (decodePass s).1 = { s with
      acc := acc, nbits := nbits, suppress := suppress, trace := trace, slotValid := false,
      lastPulseTs := if s.slotValid then s.now else s.lastPulseTs }

/-- 30_encoding.md R92 (the source's decoder grouping, W1): from an empty bit count, any sequence of bit pulses
publishes one byte for every eight, the first pulse of each eight in bit 7 and the eighth in bit 0, and no other. -/
def Obligations.EveryEightBitPulsesPublishTheirByte : Prop :=
  ∀ (s : State) (ds : List Time), s.nbits = 0#3 → (∀ d ∈ ds, d < s.cfg.cutoff) →
    published ds s = bytesOfBits (ds.map fun d => decide (s.cfg.split ≤ d))

/-! ## The commands -/

/-- 41_commands.md R141, R142: the unrecognised rows write `last_command` and the record, and nothing else. -/
def Obligations.NopsOnlyRecordTheCommand : Prop :=
  ∀ (p : Nibble) (s : State),
    exec (.nop0 p) s = .next { s with
      lastCommand := 0x0#4 ++ p, trace := s.trace ++ [.unrecognized (0x0#4 ++ p)] } ∧
    exec (.nop1 p) s = .next { s with
      lastCommand := 0x1#4 ++ p, trace := s.trace ++ [.unrecognized (0x1#4 ++ p)] }

/-- 41_commands.md R143, R144: the ignites, in every state, select profile (A, p) or (B, p) and then enter Igniting. -/
def Obligations.IgniteSelectsProfileAndEnters : Prop :=
  ∀ (p : Nibble) (s : State),
    exec (.igniteA p) s = .next (enter .igniting { s with
      lastCommand := 0x2#4 ++ p, profValid := true, profFam := .a, profIdx := p }) ∧
    exec (.igniteB p) s = .next (enter .igniting { s with
      lastCommand := 0x3#4 ++ p, profValid := true, profFam := .b, profIdx := p })

/-- 41_commands.md R145, R146: with a profile the extinguishes enter Extinguishing, without one they are dropped with
a record (the guard is the spec's decision D13). -/
def Obligations.ExtinguishEntersOrIsDropped : Prop :=
  ∀ (p : Nibble) (s : State),
    (s.profValid = true →
      exec (.extinguish4 p) s = .next (enter .extinguishing { s with lastCommand := 0x4#4 ++ p }) ∧
      exec (.extinguish5 p) s = .next (enter .extinguishing { s with lastCommand := 0x5#4 ++ p })) ∧
    (s.profValid = false →
      exec (.extinguish4 p) s = .next { s with
        lastCommand := 0x4#4 ++ p, trace := s.trace ++ [.dropped (0x4#4 ++ p) .noProfile] } ∧
      exec (.extinguish5 p) s = .next { s with
        lastCommand := 0x5#4 ++ p, trace := s.trace ++ [.dropped (0x5#4 ++ p) .noProfile] })

/-- 41_commands.md R147, R148, R180 to R182: with a profile the flickers change the state, the brightness (both the
core's copy and the sink's), the dirty flag and the timer and nothing else; without one they are dropped. The guard is
the spec's decision D13, the level formula D28. -/
def Obligations.FlickerSetsLevelOrIsDropped : Prop :=
  ∀ (p : Nibble) (s : State),
    (s.profValid = true →
      exec (.flickerLo p) s = .next { s with
        lastCommand := 0x6#4 ++ p, state := .flickerLow,
        brightness := BitVec.ofNat 8 (p.toNat * 127 / 15), sinkBrightness := BitVec.ofNat 8 (p.toNat * 127 / 15),
        dirty := true, timerArmed := true, timerStart := s.now, timerLen := s.cfg.flickerTime } ∧
      exec (.flickerHi p) s = .next { s with
        lastCommand := 0x7#4 ++ p, state := .flickerHigh,
        brightness := BitVec.ofNat 8 (128 + p.toNat * 127 / 15),
        sinkBrightness := BitVec.ofNat 8 (128 + p.toNat * 127 / 15),
        dirty := true, timerArmed := true, timerStart := s.now, timerLen := s.cfg.flickerTime }) ∧
    (s.profValid = false →
      exec (.flickerLo p) s = .next { s with
        lastCommand := 0x6#4 ++ p, trace := s.trace ++ [.dropped (0x6#4 ++ p) .noProfile] } ∧
      exec (.flickerHi p) s = .next { s with
        lastCommand := 0x7#4 ++ p, trace := s.trace ++ [.dropped (0x7#4 ++ p) .noProfile] })

/-- 41_commands.md R149, R150, R155, R156: the four offs enter Off in every state, Off included. -/
def Obligations.OffIsTakenInEveryState : Prop :=
  ∀ (p : Nibble) (s : State),
    exec (.off8 p) s = .next (enter .off { s with lastCommand := 0x8#4 ++ p }) ∧
    exec (.off9 p) s = .next (enter .off { s with lastCommand := 0x9#4 ++ p }) ∧
    exec (.offE p) s = .next (enter .off { s with lastCommand := 0xE#4 ++ p }) ∧
    exec (.offF p) s = .next (enter .off { s with lastCommand := 0xF#4 ++ p })

/-- 41_commands.md R151, R152: in Idle and Off the set-colors select the profile and enter Refresh, which leaves the
blade in Idle; in every other state they are dropped with a record of that state, and the profile is not changed. -/
def Obligations.SetcolorTakenOnlyWhenSettled : Prop :=
  ∀ (p : Nibble) (s : State),
    (s.state = .idle ∨ s.state = .off →
      exec (.setcolorA p) s = .next (enter .refresh { s with
        lastCommand := 0xA#4 ++ p, profValid := true, profFam := .a, profIdx := p }) ∧
      exec (.setcolorB p) s = .next (enter .refresh { s with
        lastCommand := 0xB#4 ++ p, profValid := true, profFam := .b, profIdx := p })) ∧
    (s.state ≠ .idle → s.state ≠ .off →
      exec (.setcolorA p) s = .next { s with
        lastCommand := 0xA#4 ++ p, trace := s.trace ++ [.dropped (0xA#4 ++ p) (.guard s.state)] } ∧
      exec (.setcolorB p) s = .next { s with
        lastCommand := 0xB#4 ++ p, trace := s.trace ++ [.dropped (0xB#4 ++ p) (.guard s.state)] })

/-- 41_commands.md R153, R154, R177: with a profile the clashes fill the strip with the clash colour and start the
clash timer, and change nothing else; without one they are dropped (the guard is the spec's decision D13). -/
def Obligations.ClashFillsStripOrIsDropped : Prop :=
  ∀ (p : Nibble) (s : State),
    (s.profValid = true →
      exec (.clashC p) s = .next { s with
        lastCommand := 0xC#4 ++ p, state := .clash, fb := List.replicate s.cfg.nPixels s.clashColor, dirty := true,
        timerArmed := true, timerStart := s.now, timerLen := s.cfg.clashTime } ∧
      exec (.clashD p) s = .next { s with
        lastCommand := 0xD#4 ++ p, state := .clash, fb := List.replicate s.cfg.nPixels s.clashColor, dirty := true,
        timerArmed := true, timerStart := s.now, timerLen := s.cfg.clashTime }) ∧
    (s.profValid = false →
      exec (.clashC p) s = .next { s with
        lastCommand := 0xC#4 ++ p, trace := s.trace ++ [.dropped (0xC#4 ++ p) .noProfile] } ∧
      exec (.clashD p) s = .next { s with
        lastCommand := 0xD#4 ++ p, trace := s.trace ++ [.dropped (0xD#4 ++ p) .noProfile] })

/-- 60_exceptions.md R260: no operation raises an exception, halts or enters an error state: every instruction, in
every state, completes, and so does every pass. -/
def Obligations.NothingEverStops : Prop :=
  (∀ (i : Instr) (s : State), ∃ t, exec i s = .next t) ∧
  (∀ (now wake : Time) (s : State), ∃ t, runPass now wake s = .next t)

/-- 41_commands.md R140, R158, 30_encoding.md R95: whenever a command completes, `last_command` is its whole byte, the
state is the resulting state of its row, and the decoder, the slot, the wheel phase and the model's inputs are as
before. The guard of the profile is the spec's decision D13, the write of `last_command` on a drop D15. -/
def Obligations.CommandMovesStateAlongItsRow : Prop :=
  ∀ (i : Instr) (s t : State), exec i s = .next t →
    t.lastCommand = i.fam ++ i.param ∧
    t.state = rowState i s.state s.profValid ∧
    (t.acc = s.acc ∧ t.nbits = s.nbits ∧ t.lastPulseTs = s.lastPulseTs ∧ t.suppress = s.suppress ∧
      t.slotValid = s.slotValid ∧ t.slotDur = s.slotDur ∧ t.wheelIndex = s.wheelIndex) ∧
    (t.cfg = s.cfg ∧ t.now = s.now ∧ t.wake = s.wake ∧ t.awakeAt = s.awakeAt ∧ t.wakeOwed = s.wakeOwed ∧
      t.window = s.window ∧ t.stim = s.stim ∧ t.draws = s.draws)

/-! ## Entering a state -/

/-- 42_state_entry.md R171, R175: the entry of Igniting. The mode advances one step exactly when an extinguish was
recorded and the re-ignite is strictly quicker than COLOR_MODE_CHANGE_TIME (the spec's decision D33), along the cycle
of R175 with its "respectively" row (D25); the colours are then derived, the strip is cleared at full brightness and
the ignition timer starts. -/
def Obligations.EnterIgnitingEffect : Prop :=
  (∀ s : State, enter .igniting s =
    { derive { s with
        state := .igniting
        colorMode := if s.extTsValid = true ∧ s.now - s.extTs < s.cfg.colorModeChangeTime
          then nextMode s.colorMode else s.colorMode } with
      ledPower := if s.cfg.hasPowerGate then true else s.ledPower
      trace := s.trace ++ (if s.cfg.hasPowerGate then [.power true] else [])
      fb := List.replicate s.cfg.nPixels Rgb.black
      brightness := 255#8
      sinkBrightness := 255#8
      dirty := true
      timerArmed := true
      timerStart := s.now
      timerLen := (lookup s.cfg s.profFam s.profIdx).ignitionTime
      animCount := 0 }) ∧
  nextMode .stock = .wheelCycle ∧ nextMode .wheelCycle = .wheelHold ∧ nextMode .wheelHold = .wheelHoldWhite ∧
  nextMode .wheelHoldWhite = .stock ∧ nextMode .wheelCycleWhite = .wheelHoldWhite

/-- 42_state_entry.md R172: the entry of Off: the strip is cleared and dirty, the power cut where there is a gate, the
sleep timer armed; the profile, the colours, the mode and `ext_ts` stay. (Its flush is the gated present, D30.) -/
def Obligations.EnterOffEffect : Prop :=
  ∀ s : State, enter .off s = { s with
    state := .off
    fb := List.replicate s.cfg.nPixels Rgb.black
    dirty := true
    ledPower := if s.cfg.hasPowerGate then false else s.ledPower
    trace := s.trace ++ (if s.cfg.hasPowerGate then [.power false] else [])
    timerArmed := true
    timerStart := s.now
    timerLen := s.cfg.sleepIdleTime }

/-- 42_state_entry.md R173: On immediately enters Idle and writes nothing of its own. -/
def Obligations.OnPassesThroughToIdle : Prop := ∀ s : State, enter .on s = enter .idle s

/-- 42_state_entry.md R174, 43_tick.md R218: the entry of Idle arms the wheel timer in the wheel-cycle modes, doubled
in WheelCycleWhite, unless a timer is armed (the spec's decision D49); else nothing but the state. -/
def Obligations.EnterIdleArmsWheelTimer : Prop :=
  ∀ s : State,
    (s.timerArmed = false → s.colorMode = .wheelCycle → enter .idle s = { s with
      state := .idle, timerArmed := true, timerStart := s.now, timerLen := s.cfg.wheelPeriod }) ∧
    (s.timerArmed = false → s.colorMode = .wheelCycleWhite → enter .idle s = { s with
      state := .idle, timerArmed := true, timerStart := s.now,
      timerLen := BitVec.ofNat 32 (2 * s.cfg.wheelPeriod.toNat) }) ∧
    (s.timerArmed = true ∨ (s.colorMode ≠ .wheelCycle ∧ s.colorMode ≠ .wheelCycleWhite) →
      enter .idle s = { s with state := .idle })

/-- 42_state_entry.md R176: the derived colours. Which white mode's colour is which, and WHITE as the clash colour
elsewhere, are the spec's decision D22. -/
def Obligations.DeriveColoursByMode : Prop :=
  ∀ s : State,
    (s.colorMode = .stock → derive s = { s with
      primaryColor := colorOf s.cfg (lookup s.cfg s.profFam s.profIdx).colorIndex, clashColor := Rgb.white }) ∧
    (s.colorMode = .wheelCycle ∨ s.colorMode = .wheelHold → derive s = { s with
      primaryColor := wheel s.wheelIndex, clashColor := Rgb.white }) ∧
    (s.colorMode = .wheelCycleWhite ∨ s.colorMode = .wheelHoldWhite → derive s = { s with
      primaryColor := Rgb.white, clashColor := Rgb.yellow })

/-- 20_memory.md R63, R64: the profile store answers the record of the family's table at the index, and a well-formed
configuration's profiles name colours inside the colour table, whose entry `ColorOf` answers. -/
def Obligations.ProfilesNameColoursOfTheTable : Prop :=
  ∀ (cfg : Config) (i : Nibble),
    cfg.profileA[i.toNat]? = some (lookup cfg .a i) ∧ cfg.profileB[i.toNat]? = some (lookup cfg .b i) ∧
    (cfg.wf = true → ∀ f, cfg.colorTable[(lookup cfg f i).colorIndex]? =
      some (colorOf cfg (lookup cfg f i).colorIndex))

/-- 42_state_entry.md R178: the entry of Extinguishing records the time, restarts the delay phase and its timer and
the dark count, and touches no pixel. -/
def Obligations.EnterExtinguishingEffect : Prop :=
  ∀ s : State, enter .extinguishing s = { s with
    state := .extinguishing
    extTs := s.now
    extTsValid := true
    extPhase := .delay
    animCount := 0
    timerArmed := true
    timerStart := s.now
    timerLen := (lookup s.cfg s.profFam s.profIdx).extinguishDelay }

/-- 42_state_entry.md R179, R184: Refresh re-derives the colours in Stock only, refills the strip at full brightness
and ends in Idle within the same rule; the LED power is not touched (the spec's decision D32). -/
def Obligations.EnterRefreshEffect : Prop :=
  ∀ s : State,
    let u := if s.colorMode = .stock then derive s else s
    enter .refresh s = enter .idle { u with
      fb := List.replicate s.cfg.nPixels u.primaryColor
      brightness := 255#8
      sinkBrightness := 255#8
      dirty := true }

/-- 42_state_entry.md R180: the flicker levels rise with the parameter, the low ones within 0..127 and the high ones
within 128..255, both ends reached (the formula is the spec's decision D28). -/
def Obligations.FlickerLevelsFillTheirHalves : Prop :=
  (∀ p q : Nibble, p ≤ q → flickerLevelLow p ≤ flickerLevelLow q ∧ flickerLevelHigh p ≤ flickerLevelHigh q) ∧
  (∀ p : Nibble, flickerLevelLow p ≤ 127#8 ∧ 128#8 ≤ flickerLevelHigh p) ∧
  flickerLevelLow 0#4 = 0#8 ∧ flickerLevelLow 15#4 = 127#8 ∧ flickerLevelHigh 0#4 = 128#8 ∧
  flickerLevelHigh 15#4 = 255#8

/-! ## The ticks -/

/-- 43_tick.md R202: `Target` is `round(e × N / T)`, half up, until the end of the animation, N from then on and for
T = 0, never more than N, and never falls as time passes. Before the end it is N exactly where `e × N / T` rounds to N
half up (the rounding is the spec's decision D19; what R216 says of the end is log entry 32). -/
def Obligations.TargetRoundsTheElapsedFraction : Prop :=
  ∀ e e' len n : Nat,
    target e 0 n = n ∧
    (0 < len → target 0 len n = 0) ∧
    (len ≤ e → target e len n = n) ∧
    target e len n ≤ n ∧
    (e ≤ e' → target e len n ≤ target e' len n) ∧
    (0 < len → e ≤ len →
      2 * len * target e len n ≤ 2 * e * n + len ∧ 2 * e * n + len < 2 * len * (target e len n + 1)) ∧
    (0 < len → (target e len n = n ↔ 2 * len * n ≤ 2 * e * n + len))

/-- 43_tick.md R203, 20_memory.md R65: the Igniting tick lights exactly the pixels of the logical pixels from
`anim_count` to the target with the primary colour, keeps every other pixel, raises the count and the dirty flag only
where the target passed it, and on the full strip clears the timer and enters On; a disarmed timer does nothing.
(Pixel orientation and the animation's arithmetic are the spec's decisions D19, D20.) -/
def Obligations.IgnitingTickLightsToTarget : Prop :=
  ∀ s : State, s.state = .igniting → s.fb.length = s.cfg.nPixels →
    (s.timerArmed = false → tick s = s) ∧
    (s.timerArmed = true →
      let t := target (s.now - s.timerStart).toNat s.timerLen.toNat (nLog s.cfg)
      ∃ frame : List Rgb, frame.length = s.cfg.nPixels ∧
        (∀ j < s.cfg.nPixels, frame[j]? =
          if s.animCount ≤ logicalOf s.cfg j ∧ logicalOf s.cfg j < t then some s.primaryColor else s.fb[j]?) ∧
        let u := { s with fb := frame, animCount := max s.animCount t, dirty := s.dirty || decide (s.animCount < t) }
        tick s = if t = nLog s.cfg then enter .on { u with timerArmed := false } else u)

/-- 43_tick.md R205: the darkening tick sets to BLACK exactly the pixels of the logical pixels from the tip inward
between the dark count and the target, keeps every other pixel, and on the full strip clears the timer and enters Off;
a disarmed timer does nothing. (Orientation and arithmetic: the spec's decisions D19, D20.) -/
def Obligations.DarkeningTickDarkensFromTip : Prop :=
  ∀ s : State, s.state = .extinguishing → s.extPhase = .anim → s.fb.length = s.cfg.nPixels →
    (s.timerArmed = false → tick s = s) ∧
    (s.timerArmed = true →
      let t := target (s.now - s.timerStart).toNat s.timerLen.toNat (nLog s.cfg)
      ∃ frame : List Rgb, frame.length = s.cfg.nPixels ∧
        (∀ j < s.cfg.nPixels, frame[j]? =
          if nLog s.cfg ≤ logicalOf s.cfg j + t ∧ logicalOf s.cfg j + s.animCount < nLog s.cfg
          then some Rgb.black else s.fb[j]?) ∧
        let u := { s with fb := frame, animCount := max s.animCount t, dirty := s.dirty || decide (s.animCount < t) }
        tick s = if t = nLog s.cfg then enter .off { u with timerArmed := false } else u)

/-- 43_tick.md R204: once the delay elapsed the animation starts at this pass's time with the profile's extinguish
time and its tick runs in the same pass; before, nothing changes (the spec's decision D21). -/
def Obligations.DelayTickStartsDarkening : Prop :=
  ∀ s : State, s.state = .extinguishing → s.extPhase = .delay →
    (s.timerArmed = true ∧ s.timerLen ≤ s.now - s.timerStart → tick s = tick { s with
      extPhase := .anim, timerStart := s.now,
      timerLen := (lookup s.cfg s.profFam s.profIdx).extinguishTime }) ∧
    (s.timerArmed = false ∨ s.now - s.timerStart < s.timerLen → tick s = s)

/-- 43_tick.md R207: once Off's timer elapsed the tick asks for sleep and re-arms the same timer from the wake time;
before, nothing changes. Re-arming from the wake time is the spec's decision D31 (log entry 28). `awakeAt`, `wakeOwed`
and `window` are the model's own notes of the wake (log entries 3, 10, 16). -/
def Obligations.OffTickSleepsAndRearms : Prop :=
  ∀ s : State, s.state = .off →
    (s.timerArmed = true ∧ s.timerLen ≤ s.now - s.timerStart → tick s = { s with
      timerStart := s.wake, awakeAt := s.wake, wakeOwed := true, window := s.window.slept,
      trace := s.trace ++ [.sleep] }) ∧
    (s.timerArmed = false ∨ s.now - s.timerStart < s.timerLen → tick s = s)

/-- 43_tick.md R208, R214, R218: in Idle the wheel advances exactly in the wheel-cycle modes once the timer elapsed;
in the other modes, and before, nothing changes. That the advance recolours the white sub-variant too is the spec's
decision D27. -/
def Obligations.IdleTickAdvancesWheel : Prop :=
  ∀ s : State, s.state = .idle →
    (s.colorMode = .wheelCycle ∨ s.colorMode = .wheelCycleWhite →
      s.timerArmed = true ∧ s.timerLen ≤ s.now - s.timerStart → tick s = { s with
        wheelIndex := s.wheelIndex + s.cfg.wheelStep
        primaryColor := wheel (s.wheelIndex + s.cfg.wheelStep)
        fb := List.replicate s.cfg.nPixels (wheel (s.wheelIndex + s.cfg.wheelStep))
        dirty := true
        timerStart := s.now
        timerLen := wheelPeriod s.cfg s.colorMode }) ∧
    ((s.colorMode ≠ .wheelCycle ∧ s.colorMode ≠ .wheelCycleWhite) ∨ s.timerArmed = false ∨
      s.now - s.timerStart < s.timerLen → tick s = s)

/-- 43_tick.md R209: once the clash timer elapsed the mode toggles, the strip takes the primary colour, the timer is
cleared and Idle is entered; before, nothing changes. -/
def Obligations.ClashTickRevertsToPrimary : Prop :=
  ∀ s : State, s.state = .clash →
    (s.timerArmed = true ∧ s.timerLen ≤ s.now - s.timerStart →
      tick s = enter .idle { clashToggle s with
        fb := List.replicate s.cfg.nPixels (clashToggle s).primaryColor, dirty := true, timerArmed := false }) ∧
    (s.timerArmed = false ∨ s.now - s.timerStart < s.timerLen → tick s = s)

/-- 43_tick.md R210: the clash toggles WheelCycle and WheelCycleWhite, with their colours, and no other mode (the
spec's decisions D22, D26). -/
def Obligations.ClashTogglesWheelCycleOnly : Prop :=
  ∀ s : State,
    (s.colorMode = .wheelCycle → clashToggle s = { s with
      colorMode := .wheelCycleWhite, primaryColor := Rgb.white, clashColor := Rgb.yellow }) ∧
    (s.colorMode = .wheelCycleWhite → clashToggle s = { s with
      colorMode := .wheelCycle, primaryColor := wheel s.wheelIndex, clashColor := Rgb.white }) ∧
    (s.colorMode ≠ .wheelCycle → s.colorMode ≠ .wheelCycleWhite → clashToggle s = s)

/-- 43_tick.md R212, R213: once a flicker's timer elapsed the brightness is dimmed, the timer cleared and Idle
entered, with no pixel changed; before, nothing changes. -/
def Obligations.FlickerTickDimsAndEnds : Prop :=
  ∀ s : State, s.state = .flickerLow ∨ s.state = .flickerHigh →
    (s.timerArmed = true ∧ s.timerLen ≤ s.now - s.timerStart →
      tick s = enter .idle { s with
        brightness := dim s.brightness, sinkBrightness := dim s.brightness, dirty := true, timerArmed := false }) ∧
    (s.timerArmed = false ∨ s.now - s.timerStart < s.timerLen → tick s = s)

/-- 43_tick.md R211: dimming leaves four fifths of the brightness, rounded down (the spec's decision D29). -/
def Obligations.DimLeavesFourFifths : Prop :=
  ∀ b : Byte, 5 * (dim b).toNat ≤ 4 * b.toNat ∧ 4 * b.toNat < 5 * (dim b).toNat + 5

/-- 43_tick.md R215: the wheel: at every phase the channels sum to 255 and one of them is 0, and the segments meet at
red, blue, green and red. The formula is the spec's general knowledge (D24, G1). -/
def Obligations.WheelIsAFullSaturationCycle : Prop :=
  (∀ p : Byte, (wheel p).r.toNat + (wheel p).g.toNat + (wheel p).b.toNat = 255 ∧
    ((wheel p).r = 0#8 ∨ (wheel p).g = 0#8 ∨ (wheel p).b = 0#8)) ∧
  wheel 0#8 = ⟨255#8, 0#8, 0#8⟩ ∧ wheel 85#8 = ⟨0#8, 0#8, 255#8⟩ ∧ wheel 170#8 = ⟨0#8, 255#8, 0#8⟩ ∧
  wheel 255#8 = ⟨255#8, 0#8, 0#8⟩ ∧
  wheel 16#8 = ⟨207#8, 0#8, 48#8⟩ ∧ wheel 127#8 = ⟨0#8, 126#8, 129#8⟩ ∧ wheel 212#8 = ⟨126#8, 129#8, 0#8⟩

/-- 43_tick.md R218: the wheel period is doubled modulo 2^32 in WheelCycleWhite and plain in every other mode. -/
def Obligations.WheelPeriodDoublesInWhite : Prop :=
  ∀ (cfg : Config) (m : ColorMode),
    (wheelPeriod cfg m).toNat =
      if m = .wheelCycleWhite then 2 * cfg.wheelPeriod.toNat % 2 ^ 32 else cfg.wheelPeriod.toNat

/-! ## The pass and the machine -/

/-- 44_loop.md R240, R241, R243; 41_commands.md R140; 20_memory.md R71, R83: what one step does with each next
stimulus. A delivery stores or overruns, an overlapped pulse is lost or mismeasured, and a pass is the reset exit, then
the decode, then the instruction the published byte decodes to (none where none is published), then the tick, then the
present. The order of the phases is the spec's decision D11; the queue, and the check that the stimulus is one of a run,
are the model's (log entries 2, 10, 12). -/
def Obligations.StepRunsTheDecodedInstruction : Prop :=
  ∀ (s : State) (rest : List Stimulus), s.cfg.wf = true → foundFault s = none →
    (∀ d : Time, s.stim = .deliver d :: rest → step s = .next (deliver d { s with stim := rest })) ∧
    (s.stim = .overlapped :: rest → brokenDuty .overlapped { s with stim := rest } = none →
      step s = .next (deliverOverlapped { s with stim := rest })) ∧
    (∀ (now wake : Time) (u : State) (cmd : Option Byte), s.stim = .pass now wake :: rest →
      brokenDuty (.pass now wake) { s with stim := rest } = none →
      decodePass (resetExit { s with
        stim := rest, now := now, wake := wake, awakeAt := now, window := s.window.passStarted }) = (u, cmd) →
      (∀ (c : Byte) (i : Instr) (t : State), cmd = some c → decode [c] = .ok (i, []) → exec i u = .next t →
        step s = .next (presentPhase (tick t))) ∧
      (cmd = none → step s = .next (presentPhase (tick u))))

/-- 40_decoder.md R116, R117: a command byte placed by `withFetchWord` is published and run by the very next step,
under every configuration and in every state, the first pass or one whose last sleep is less than half the range of time
away (the invariant `awake`). The placing is the model's (log entries 2, 31). -/
def Obligations.PlacedCommandRunsNext : Prop :=
  ∀ (s : State) (c : Byte), s.cfg.wf = true → foundFault s = none →
    s.state = .uninitialized ∨ (s.awakeAt - s.now).toNat < 2 ^ 31 →
    ∃ t, exec (decodeByte c) { resetExit (latchInputs s.awakeAt s.awakeAt s) with
        acc := c, nbits := 0#3, suppress := false, lastPulseTs := s.awakeAt, slotValid := false, wakeOwed := false,
        window := .shut, slotDur := bitDuration s.cfg (c.getLsbD 0),
        trace := (resetExit (latchInputs s.awakeAt s.awakeAt s)).trace ++ [.command c] } = .next t ∧
      step (s.withFetchWord 8 c.toNat) = .next (presentPhase (tick t))

/-- 44_loop.md R245: phase 4 presents the strip exactly when it is dirty and not suppressed, and then it is clean
(presenting only when dirty is the spec's decision D35). Suppression covers the pulses to come (70_reset_and_hazards.md
R293): `window`, the model's own note of it, is shut (log entry 10). -/
def Obligations.PresentOnlyWhenDirtyAndNotSuppressed : Prop :=
  ∀ s : State,
    (s.dirty = true ∧ s.suppress = false → presentPhase s = { s with
      dirty := false, window := .latest, trace := s.trace ++ [.present s.fb s.sinkBrightness] }) ∧
    (s.suppress = true → presentPhase s = { s with window := .shut }) ∧
    (s.dirty = false → s.suppress = false → presentPhase s = s)

/-- 10_state.md R45 to R49: reset, for every configuration and every draw of what is left unspecified. The values are
the spec's decisions D34 and D44; the model's own fields are in log entries 2 to 4. -/
def Obligations.ResetValues : Prop :=
  ∀ (cfg : Config) (frame : List Rgb) (level : Byte) (dur : Time),
    let s := State.resetWith cfg frame level dur
    (s.acc = 0#8 ∧ s.nbits = 0#3 ∧ s.suppress = false ∧ s.lastPulseTs = 0#32 ∧ s.slotValid = false) ∧
    (s.state = .uninitialized ∧ s.profValid = false ∧ s.profFam = .a ∧ s.profIdx = 0#4 ∧ s.lastCommand = 0#8 ∧
      s.colorMode = .stock ∧ s.primaryColor = Rgb.black ∧ s.clashColor = Rgb.black ∧ s.wheelIndex = 0#8) ∧
    (s.brightness = 255#8 ∧ s.timerArmed = false ∧ s.timerStart = 0#32 ∧ s.timerLen = 0#32 ∧
      s.extTsValid = false ∧ s.extTs = 0#32 ∧ s.extPhase = .delay ∧ s.animCount = 0 ∧ s.dirty = false ∧
      s.ledPower = false)

/-- 44_loop.md R242, 70_reset_and_hazards.md R290, R291: the first pass leaves the block Off, dark and presented, with
the power cut where there is a gate and the sleep timer armed from its `now`, and every other element as at reset, for
every configuration and every draw of the sink's reset (the trigger is the spec's decision D12). Where the sleep time
is 0 the same pass's tick already asks for sleep and re-arms from the wake time (43_tick.md R207), which must not lie
before `now` (R249). `now`, `wake`, `awakeAt`, `stim`, `wakeOwed` and `window` are the model's own (log entries 2, 3,
10, 16). -/
def Obligations.FirstPassEntersOff : Prop :=
  ∀ (cfg : Config) (frame : List Rgb) (level : Byte) (dur now wake : Time) (rest : List Stimulus),
    cfg.wf = true → (cfg.sleepIdleTime = 0#32 → (wake - now).toNat < 2 ^ 31) →
    step { State.resetWith cfg frame level dur with stim := .pass now wake :: rest } =
      .next { State.resetWith cfg (List.replicate cfg.nPixels Rgb.black) level dur with
        state := .off
        timerArmed := true
        timerStart := if cfg.sleepIdleTime = 0#32 then wake else now
        timerLen := cfg.sleepIdleTime
        now := now
        wake := wake
        awakeAt := if cfg.sleepIdleTime = 0#32 then wake else now
        wakeOwed := decide (cfg.sleepIdleTime = 0#32)
        window := .latest
        stim := rest
        trace := (if cfg.hasPowerGate then [.power false] else []) ++
          (if cfg.sleepIdleTime = 0#32 then [.sleep] else []) ++
          [.present (List.replicate cfg.nPixels Rgb.black) level] }

/-- 92 D45 (10_state.md R30 to R32, U1 to U3); 93 U19 (44_loop.md R249); 20_memory.md R83, 70_reset_and_hazards.md R293:
under a well-formed configuration a step stops with a fault exactly on a reserved code or a missing profile, and with a
refusal exactly on a stimulus that is none of a run: a pass back in time, before the last wake time or 2^31 late; a pass
that sleeps with a wake time before its `now`; an overlapped pulse without a present, or behind a bit or a preamble that
still waits in the slot. Each has its own name. In every other case the step answers a next state. Checking at the start
of a step, and the readings of the last two, are the model's choice (log entries 7, 8, 10, 12). -/
def Obligations.StepFaultsOnImpossibleStates : Prop :=
  ∀ s : State, s.cfg.wf = true →
    ((∃ k, s.state = .reserved k) → step s = .fault .reservedState) ∧
    (s.state.legal = true → (∃ k, s.colorMode = .reserved k) → step s = .fault .reservedColorMode) ∧
    (s.state.legal = true → s.colorMode.legal = true → s.profValid = false → s.state ≠ .uninitialized →
      s.state ≠ .off → step s = .fault .profileMissing) ∧
    (s.state.legal = true → s.colorMode.legal = true →
      s.profValid = true ∨ s.state = .uninitialized ∨ s.state = .off →
      match (nextStimulus s).1 with
      | .deliver _ => ∃ t, step s = .next t
      | .overlapped =>
        (s.window = .shut ∨ heldBack s → step s = .refused .overlapWithoutPresent) ∧
        (s.window ≠ .shut → ¬ heldBack s → ∃ t, step s = .next t)
      | .pass now wake =>
        (¬ timely s now → step s = .refused .timeDuty) ∧
        (timely s now → ¬ asksForSleep s now wake → ∃ t, step s = .next t) ∧
        (timely s now → asksForSleep s now wake →
          (2 ^ 31 ≤ (wake - now).toNat → step s = .refused .wakeDuty) ∧
          ((wake - now).toNat < 2 ^ 31 → ∃ t, step s = .next t)))

/-- 20_memory.md R64, 93 U18: a configuration that breaks a constraint of R6, R7 or R64 is refused by every step. -/
def Obligations.StepRefusesIllFormedConfig : Prop :=
  ∀ s : State,
    (¬(0#32 < s.cfg.split ∧ s.cfg.split < s.cfg.cutoff ∧ s.cfg.cutoff ≤ s.cfg.preambleLo ∧
        s.cfg.preambleLo ≤ s.cfg.preambleHi ∧ 1 ≤ s.cfg.nPixels ∧ s.cfg.wheelPeriod ≠ 0#32 ∧
        ∀ f i, (lookup s.cfg f i).colorIndex < s.cfg.colorTable.length)) →
    step s = .refused .illFormedConfig

/-- The invariants hold after reset, under every well-formed configuration and every draw of the sink's reset. -/
def Obligations.ResetMeetsInvariants : Prop :=
  ∀ (cfg : Config) (frame : List Rgb) (level : Byte) (dur : Time),
    cfg.wf = true → frame.length = cfg.nPixels →
    Invariants (State.resetWith cfg frame level dur) ∧ Regions (State.resetWith cfg frame level dur)

/-- 10_state.md R25, R30 to R32, R40, R42; 44_loop.md R245, R249; 60_exceptions.md R264, R273; 70_reset_and_hazards.md
R293: from every state that meets the invariants, whatever the environment does, a step answers a next state that meets
them, unless the stimulus breaks a duty, and then it is refused under that duty's name; so is every overlapped pulse
while suppression is raised, which covers bits 2 to 8 of a command and all bits after a preamble. -/
def Obligations.StepKeepsInvariants : Prop :=
  ∀ s : State, Invariants s →
    (match brokenDuty (nextStimulus s).1 (nextStimulus s).2 with
      | none => ∃ t, step s = .next t ∧ Invariants t
      | some r => step s = .refused r) ∧
    (s.suppress = true → (nextStimulus s).1 = .overlapped → step s = .refused .overlapWithoutPresent)

/-- 43_tick.md R206: the animation regions: whatever the environment does, after every step the lit logical pixels of
Igniting are exactly those below the count, with the primary colour, Extinguishing has darkened nothing in its delay and
the pixels of its count from the tip in its animation, and Off is all BLACK. -/
def Obligations.StepKeepsAnimationRegions : Prop :=
  ∀ s t : State, Invariants s → Regions s → step s = .next t → Regions t

/-- 41_commands.md R158: from a state that meets the invariants, one step moves the blade state only by leaving
Uninitialized for Off, then along the row of the command its pass published, then by one move of a tick. -/
def Obligations.OnlyListedTransitionsAreReachable : Prop :=
  ∀ s t : State, Invariants s → step s = .next t →
    match (nextStimulus s).1 with
    | .deliver _ | .overlapped => t.state = s.state
    | .pass _ _ =>
      let b := if s.state = .uninitialized then .off else s.state
      let b' := match nextCommand s with
        | none => b
        | some c => rowState (decodeByte c) b s.profValid
      t.state = b' ∨ tickMove b' t.state

/-- 10_state.md R33: a step changes `color_mode` only on an ignite command that follows a sufficiently recent
extinguish, and then to the next mode of the cycle, or in Clash while already in a wheel-cycle mode, and then to the
other one. The cycle is the spec's decision D25, the toggle D26 (log entry 25). -/
def Obligations.ColorModeChangesOnlyByIgniteOrClash : Prop :=
  ∀ s t : State, step s = .next t → t.colorMode ≠ s.colorMode →
    (∃ c, nextCommand s = some c ∧ ignites c ∧ s.extTsValid = true ∧
      nextTime s - s.extTs < s.cfg.colorModeChangeTime ∧ t.colorMode = nextMode s.colorMode) ∨
    ((s.state = .clash ∨ ∃ c, nextCommand s = some c ∧ clashes c) ∧
      ((s.colorMode = .wheelCycle ∧ t.colorMode = .wheelCycleWhite) ∨
        (s.colorMode = .wheelCycleWhite ∧ t.colorMode = .wheelCycle)))

/-- 10_state.md R42 (the spec's decision D32): a step raises the LED power only on an ignite command and only where
there is a gate, and cuts it only by entering Off: the step ends in Off, or was the first pass, which enters Off before anything
else. -/
def Obligations.LedPowerFollowsIgniteAndOff : Prop :=
  ∀ s t : State, step s = .next t →
    (t.ledPower = true → s.ledPower = false → s.cfg.hasPowerGate = true ∧
      ∃ c, nextCommand s = some c ∧ ignites c) ∧
    (t.ledPower = false → s.ledPower = true → s.cfg.hasPowerGate = true ∧
      (t.state = .off ∨ s.state = .uninitialized) ∧
      (s.state = .uninitialized ∨ s.state = .extinguishing ∨ ∃ c, nextCommand s = some c ∧
        (turnsOff c ∨ extinguishes c)))

/-- 60_exceptions.md R262, R274: nothing reads the records: a step from two states that differ in their traces alone
gives two states that differ in their traces alone, and the records it adds are the same. -/
def Obligations.TraceIsAppendedAndNeverRead : Prop :=
  ∀ (s t : State) (past : List Record), step { s with trace := [] } = .next t →
    step { s with trace := past } = .next { t with trace := past ++ t.trace }

/-- 10_state.md R20, R28, R29, R38; 20_memory.md R71, R83; 44_loop.md R240, R246: a step that is no pass leaves every
field alone but the slot, the queue, the draw counter and the notes that a pulse has ended, and no pass clears an owed
waking edge. No step writes the configuration or loses the
profile or the extinguish record, `last_command` is written only with the one byte a pass published, and without one the
profile and `ext_ts` stay. What else a pass writes is its phases' (StepRunsTheDecodedInstruction). -/
def Obligations.StepFrame : Prop :=
  ∀ s t : State, step s = .next t →
    t.cfg = s.cfg ∧
    (s.profValid = true → t.profValid = true) ∧
    (s.extTsValid = true → t.extTsValid = true) ∧
    t.lastCommand = (nextCommand s).getD s.lastCommand ∧
    (nextCommand s = none → t.profValid = s.profValid ∧ t.profFam = s.profFam ∧ t.profIdx = s.profIdx ∧
      t.extTs = s.extTs) ∧
    ((∀ now wake, (nextStimulus s).1 ≠ .pass now wake) → ∃ valid dur stim draws,
      t = { s with
        slotValid := valid, slotDur := dur, stim := stim, draws := draws, wakeOwed := false,
        window := if s.window = .latest then .latest else .shut }) ∧
    (∀ now wake, (nextStimulus s).1 = .pass now wake → s.wakeOwed = true → t.wakeOwed = true)

/-- 60_exceptions.md R270, R273: sleep is entered only from Off's tick with its timer elapsed. A tick only appends to the
trace, and where it appends a Sleep record it was Off's with the timer elapsed, and it retains everything but the timer's
start and the records. A step only appends to the trace, and where it appends a Sleep record it was a pass that ends in
Off with the timer re-armed from its wake time. State retention is the spec's decision D31; `awakeAt`, `wakeOwed` and
`window` are the model's own (log entries 3, 10, 16). -/
def Obligations.SleepOnlyFromOff : Prop :=
  (∀ s : State, ∃ added : List Record, (tick s).trace = s.trace ++ added ∧
    (Record.sleep ∈ added →
      s.state = .off ∧ s.timerArmed = true ∧ s.timerLen ≤ s.now - s.timerStart ∧
      tick s = { s with
        timerStart := s.wake, awakeAt := s.wake, wakeOwed := true, window := s.window.slept,
        trace := s.trace ++ [.sleep] })) ∧
  (∀ s t : State, step s = .next t → ∃ added : List Record, t.trace = s.trace ++ added ∧
    (Record.sleep ∈ added → ∃ now wake, (nextStimulus s).1 = .pass now wake ∧
      t.state = .off ∧ t.timerArmed = true ∧ t.timerStart = wake))
end

