-- ==== Sys2Proof/Laws/State.lean ====
section
/-! SUPPORT. One lemma per field per update of the state, true by rfl: what each named operation writes and what it
leaves alone, so that no later proof unfolds a record update. -/

namespace Sys2Proof.Machine

variable (s : State)

/-! emit -/

@[simp] theorem emit_acc (r : Record) : (emit r s).acc = s.acc := rfl
@[simp] theorem emit_nbits (r : Record) : (emit r s).nbits = s.nbits := rfl
@[simp] theorem emit_lastPulseTs (r : Record) : (emit r s).lastPulseTs = s.lastPulseTs := rfl
@[simp] theorem emit_suppress (r : Record) : (emit r s).suppress = s.suppress := rfl
@[simp] theorem emit_slotValid (r : Record) : (emit r s).slotValid = s.slotValid := rfl
@[simp] theorem emit_slotDur (r : Record) : (emit r s).slotDur = s.slotDur := rfl
@[simp] theorem emit_state (r : Record) : (emit r s).state = s.state := rfl
@[simp] theorem emit_lastCommand (r : Record) : (emit r s).lastCommand = s.lastCommand := rfl
@[simp] theorem emit_profValid (r : Record) : (emit r s).profValid = s.profValid := rfl
@[simp] theorem emit_profFam (r : Record) : (emit r s).profFam = s.profFam := rfl
@[simp] theorem emit_profIdx (r : Record) : (emit r s).profIdx = s.profIdx := rfl
@[simp] theorem emit_colorMode (r : Record) : (emit r s).colorMode = s.colorMode := rfl
@[simp] theorem emit_primaryColor (r : Record) : (emit r s).primaryColor = s.primaryColor := rfl
@[simp] theorem emit_clashColor (r : Record) : (emit r s).clashColor = s.clashColor := rfl
@[simp] theorem emit_wheelIndex (r : Record) : (emit r s).wheelIndex = s.wheelIndex := rfl
@[simp] theorem emit_brightness (r : Record) : (emit r s).brightness = s.brightness := rfl
@[simp] theorem emit_timerArmed (r : Record) : (emit r s).timerArmed = s.timerArmed := rfl
@[simp] theorem emit_timerStart (r : Record) : (emit r s).timerStart = s.timerStart := rfl
@[simp] theorem emit_timerLen (r : Record) : (emit r s).timerLen = s.timerLen := rfl
@[simp] theorem emit_extTsValid (r : Record) : (emit r s).extTsValid = s.extTsValid := rfl
@[simp] theorem emit_extTs (r : Record) : (emit r s).extTs = s.extTs := rfl
@[simp] theorem emit_extPhase (r : Record) : (emit r s).extPhase = s.extPhase := rfl
@[simp] theorem emit_animCount (r : Record) : (emit r s).animCount = s.animCount := rfl
@[simp] theorem emit_dirty (r : Record) : (emit r s).dirty = s.dirty := rfl
@[simp] theorem emit_ledPower (r : Record) : (emit r s).ledPower = s.ledPower := rfl
@[simp] theorem emit_fb (r : Record) : (emit r s).fb = s.fb := rfl
@[simp] theorem emit_sinkBrightness (r : Record) : (emit r s).sinkBrightness = s.sinkBrightness := rfl
@[simp] theorem emit_cfg (r : Record) : (emit r s).cfg = s.cfg := rfl
@[simp] theorem emit_now (r : Record) : (emit r s).now = s.now := rfl
@[simp] theorem emit_wake (r : Record) : (emit r s).wake = s.wake := rfl
@[simp] theorem emit_awakeAt (r : Record) : (emit r s).awakeAt = s.awakeAt := rfl
@[simp] theorem emit_wakeOwed (r : Record) : (emit r s).wakeOwed = s.wakeOwed := rfl
@[simp] theorem emit_window (r : Record) : (emit r s).window = s.window := rfl
@[simp] theorem emit_stim (r : Record) : (emit r s).stim = s.stim := rfl
@[simp] theorem emit_draws (r : Record) : (emit r s).draws = s.draws := rfl
@[simp] theorem emit_trace (r : Record) : (emit r s).trace = s.trace ++ [r] := rfl

/-! setPixel -/

@[simp] theorem setPixel_acc (i : Nat) (c : Rgb) : (setPixel i c s).acc = s.acc := rfl
@[simp] theorem setPixel_nbits (i : Nat) (c : Rgb) : (setPixel i c s).nbits = s.nbits := rfl
@[simp] theorem setPixel_lastPulseTs (i : Nat) (c : Rgb) : (setPixel i c s).lastPulseTs = s.lastPulseTs := rfl
@[simp] theorem setPixel_suppress (i : Nat) (c : Rgb) : (setPixel i c s).suppress = s.suppress := rfl
@[simp] theorem setPixel_slotValid (i : Nat) (c : Rgb) : (setPixel i c s).slotValid = s.slotValid := rfl
@[simp] theorem setPixel_slotDur (i : Nat) (c : Rgb) : (setPixel i c s).slotDur = s.slotDur := rfl
@[simp] theorem setPixel_state (i : Nat) (c : Rgb) : (setPixel i c s).state = s.state := rfl
@[simp] theorem setPixel_lastCommand (i : Nat) (c : Rgb) : (setPixel i c s).lastCommand = s.lastCommand := rfl
@[simp] theorem setPixel_profValid (i : Nat) (c : Rgb) : (setPixel i c s).profValid = s.profValid := rfl
@[simp] theorem setPixel_profFam (i : Nat) (c : Rgb) : (setPixel i c s).profFam = s.profFam := rfl
@[simp] theorem setPixel_profIdx (i : Nat) (c : Rgb) : (setPixel i c s).profIdx = s.profIdx := rfl
@[simp] theorem setPixel_colorMode (i : Nat) (c : Rgb) : (setPixel i c s).colorMode = s.colorMode := rfl
@[simp] theorem setPixel_primaryColor (i : Nat) (c : Rgb) : (setPixel i c s).primaryColor = s.primaryColor := rfl
@[simp] theorem setPixel_clashColor (i : Nat) (c : Rgb) : (setPixel i c s).clashColor = s.clashColor := rfl
@[simp] theorem setPixel_wheelIndex (i : Nat) (c : Rgb) : (setPixel i c s).wheelIndex = s.wheelIndex := rfl
@[simp] theorem setPixel_brightness (i : Nat) (c : Rgb) : (setPixel i c s).brightness = s.brightness := rfl
@[simp] theorem setPixel_timerArmed (i : Nat) (c : Rgb) : (setPixel i c s).timerArmed = s.timerArmed := rfl
@[simp] theorem setPixel_timerStart (i : Nat) (c : Rgb) : (setPixel i c s).timerStart = s.timerStart := rfl
@[simp] theorem setPixel_timerLen (i : Nat) (c : Rgb) : (setPixel i c s).timerLen = s.timerLen := rfl
@[simp] theorem setPixel_extTsValid (i : Nat) (c : Rgb) : (setPixel i c s).extTsValid = s.extTsValid := rfl
@[simp] theorem setPixel_extTs (i : Nat) (c : Rgb) : (setPixel i c s).extTs = s.extTs := rfl
@[simp] theorem setPixel_extPhase (i : Nat) (c : Rgb) : (setPixel i c s).extPhase = s.extPhase := rfl
@[simp] theorem setPixel_animCount (i : Nat) (c : Rgb) : (setPixel i c s).animCount = s.animCount := rfl
@[simp] theorem setPixel_dirty (i : Nat) (c : Rgb) : (setPixel i c s).dirty = s.dirty := rfl
@[simp] theorem setPixel_ledPower (i : Nat) (c : Rgb) : (setPixel i c s).ledPower = s.ledPower := rfl
@[simp] theorem setPixel_fb (i : Nat) (c : Rgb) : (setPixel i c s).fb = s.fb.set i c := rfl
@[simp] theorem setPixel_sinkBrightness (i : Nat) (c : Rgb) : (setPixel i c s).sinkBrightness = s.sinkBrightness := rfl
@[simp] theorem setPixel_cfg (i : Nat) (c : Rgb) : (setPixel i c s).cfg = s.cfg := rfl
@[simp] theorem setPixel_now (i : Nat) (c : Rgb) : (setPixel i c s).now = s.now := rfl
@[simp] theorem setPixel_wake (i : Nat) (c : Rgb) : (setPixel i c s).wake = s.wake := rfl
@[simp] theorem setPixel_awakeAt (i : Nat) (c : Rgb) : (setPixel i c s).awakeAt = s.awakeAt := rfl
@[simp] theorem setPixel_wakeOwed (i : Nat) (c : Rgb) : (setPixel i c s).wakeOwed = s.wakeOwed := rfl
@[simp] theorem setPixel_window (i : Nat) (c : Rgb) : (setPixel i c s).window = s.window := rfl
@[simp] theorem setPixel_stim (i : Nat) (c : Rgb) : (setPixel i c s).stim = s.stim := rfl
@[simp] theorem setPixel_draws (i : Nat) (c : Rgb) : (setPixel i c s).draws = s.draws := rfl
@[simp] theorem setPixel_trace (i : Nat) (c : Rgb) : (setPixel i c s).trace = s.trace := rfl

/-! fillAll -/

@[simp] theorem fillAll_acc (c : Rgb) : (fillAll c s).acc = s.acc := rfl
@[simp] theorem fillAll_nbits (c : Rgb) : (fillAll c s).nbits = s.nbits := rfl
@[simp] theorem fillAll_lastPulseTs (c : Rgb) : (fillAll c s).lastPulseTs = s.lastPulseTs := rfl
@[simp] theorem fillAll_suppress (c : Rgb) : (fillAll c s).suppress = s.suppress := rfl
@[simp] theorem fillAll_slotValid (c : Rgb) : (fillAll c s).slotValid = s.slotValid := rfl
@[simp] theorem fillAll_slotDur (c : Rgb) : (fillAll c s).slotDur = s.slotDur := rfl
@[simp] theorem fillAll_state (c : Rgb) : (fillAll c s).state = s.state := rfl
@[simp] theorem fillAll_lastCommand (c : Rgb) : (fillAll c s).lastCommand = s.lastCommand := rfl
@[simp] theorem fillAll_profValid (c : Rgb) : (fillAll c s).profValid = s.profValid := rfl
@[simp] theorem fillAll_profFam (c : Rgb) : (fillAll c s).profFam = s.profFam := rfl
@[simp] theorem fillAll_profIdx (c : Rgb) : (fillAll c s).profIdx = s.profIdx := rfl
@[simp] theorem fillAll_colorMode (c : Rgb) : (fillAll c s).colorMode = s.colorMode := rfl
@[simp] theorem fillAll_primaryColor (c : Rgb) : (fillAll c s).primaryColor = s.primaryColor := rfl
@[simp] theorem fillAll_clashColor (c : Rgb) : (fillAll c s).clashColor = s.clashColor := rfl
@[simp] theorem fillAll_wheelIndex (c : Rgb) : (fillAll c s).wheelIndex = s.wheelIndex := rfl
@[simp] theorem fillAll_brightness (c : Rgb) : (fillAll c s).brightness = s.brightness := rfl
@[simp] theorem fillAll_timerArmed (c : Rgb) : (fillAll c s).timerArmed = s.timerArmed := rfl
@[simp] theorem fillAll_timerStart (c : Rgb) : (fillAll c s).timerStart = s.timerStart := rfl
@[simp] theorem fillAll_timerLen (c : Rgb) : (fillAll c s).timerLen = s.timerLen := rfl
@[simp] theorem fillAll_extTsValid (c : Rgb) : (fillAll c s).extTsValid = s.extTsValid := rfl
@[simp] theorem fillAll_extTs (c : Rgb) : (fillAll c s).extTs = s.extTs := rfl
@[simp] theorem fillAll_extPhase (c : Rgb) : (fillAll c s).extPhase = s.extPhase := rfl
@[simp] theorem fillAll_animCount (c : Rgb) : (fillAll c s).animCount = s.animCount := rfl
@[simp] theorem fillAll_dirty (c : Rgb) : (fillAll c s).dirty = s.dirty := rfl
@[simp] theorem fillAll_ledPower (c : Rgb) : (fillAll c s).ledPower = s.ledPower := rfl
@[simp] theorem fillAll_fb (c : Rgb) : (fillAll c s).fb = List.replicate s.cfg.nPixels c := rfl
@[simp] theorem fillAll_sinkBrightness (c : Rgb) : (fillAll c s).sinkBrightness = s.sinkBrightness := rfl
@[simp] theorem fillAll_cfg (c : Rgb) : (fillAll c s).cfg = s.cfg := rfl
@[simp] theorem fillAll_now (c : Rgb) : (fillAll c s).now = s.now := rfl
@[simp] theorem fillAll_wake (c : Rgb) : (fillAll c s).wake = s.wake := rfl
@[simp] theorem fillAll_awakeAt (c : Rgb) : (fillAll c s).awakeAt = s.awakeAt := rfl
@[simp] theorem fillAll_wakeOwed (c : Rgb) : (fillAll c s).wakeOwed = s.wakeOwed := rfl
@[simp] theorem fillAll_window (c : Rgb) : (fillAll c s).window = s.window := rfl
@[simp] theorem fillAll_stim (c : Rgb) : (fillAll c s).stim = s.stim := rfl
@[simp] theorem fillAll_draws (c : Rgb) : (fillAll c s).draws = s.draws := rfl
@[simp] theorem fillAll_trace (c : Rgb) : (fillAll c s).trace = s.trace := rfl

/-! setBrightness -/

@[simp] theorem setBrightness_acc (b : Byte) : (setBrightness b s).acc = s.acc := rfl
@[simp] theorem setBrightness_nbits (b : Byte) : (setBrightness b s).nbits = s.nbits := rfl
@[simp] theorem setBrightness_lastPulseTs (b : Byte) : (setBrightness b s).lastPulseTs = s.lastPulseTs := rfl
@[simp] theorem setBrightness_suppress (b : Byte) : (setBrightness b s).suppress = s.suppress := rfl
@[simp] theorem setBrightness_slotValid (b : Byte) : (setBrightness b s).slotValid = s.slotValid := rfl
@[simp] theorem setBrightness_slotDur (b : Byte) : (setBrightness b s).slotDur = s.slotDur := rfl
@[simp] theorem setBrightness_state (b : Byte) : (setBrightness b s).state = s.state := rfl
@[simp] theorem setBrightness_lastCommand (b : Byte) : (setBrightness b s).lastCommand = s.lastCommand := rfl
@[simp] theorem setBrightness_profValid (b : Byte) : (setBrightness b s).profValid = s.profValid := rfl
@[simp] theorem setBrightness_profFam (b : Byte) : (setBrightness b s).profFam = s.profFam := rfl
@[simp] theorem setBrightness_profIdx (b : Byte) : (setBrightness b s).profIdx = s.profIdx := rfl
@[simp] theorem setBrightness_colorMode (b : Byte) : (setBrightness b s).colorMode = s.colorMode := rfl
@[simp] theorem setBrightness_primaryColor (b : Byte) : (setBrightness b s).primaryColor = s.primaryColor := rfl
@[simp] theorem setBrightness_clashColor (b : Byte) : (setBrightness b s).clashColor = s.clashColor := rfl
@[simp] theorem setBrightness_wheelIndex (b : Byte) : (setBrightness b s).wheelIndex = s.wheelIndex := rfl
@[simp] theorem setBrightness_brightness (b : Byte) : (setBrightness b s).brightness = b := rfl
@[simp] theorem setBrightness_timerArmed (b : Byte) : (setBrightness b s).timerArmed = s.timerArmed := rfl
@[simp] theorem setBrightness_timerStart (b : Byte) : (setBrightness b s).timerStart = s.timerStart := rfl
@[simp] theorem setBrightness_timerLen (b : Byte) : (setBrightness b s).timerLen = s.timerLen := rfl
@[simp] theorem setBrightness_extTsValid (b : Byte) : (setBrightness b s).extTsValid = s.extTsValid := rfl
@[simp] theorem setBrightness_extTs (b : Byte) : (setBrightness b s).extTs = s.extTs := rfl
@[simp] theorem setBrightness_extPhase (b : Byte) : (setBrightness b s).extPhase = s.extPhase := rfl
@[simp] theorem setBrightness_animCount (b : Byte) : (setBrightness b s).animCount = s.animCount := rfl
@[simp] theorem setBrightness_dirty (b : Byte) : (setBrightness b s).dirty = s.dirty := rfl
@[simp] theorem setBrightness_ledPower (b : Byte) : (setBrightness b s).ledPower = s.ledPower := rfl
@[simp] theorem setBrightness_fb (b : Byte) : (setBrightness b s).fb = s.fb := rfl
@[simp] theorem setBrightness_sinkBrightness (b : Byte) : (setBrightness b s).sinkBrightness = b := rfl
@[simp] theorem setBrightness_cfg (b : Byte) : (setBrightness b s).cfg = s.cfg := rfl
@[simp] theorem setBrightness_now (b : Byte) : (setBrightness b s).now = s.now := rfl
@[simp] theorem setBrightness_wake (b : Byte) : (setBrightness b s).wake = s.wake := rfl
@[simp] theorem setBrightness_awakeAt (b : Byte) : (setBrightness b s).awakeAt = s.awakeAt := rfl
@[simp] theorem setBrightness_wakeOwed (b : Byte) : (setBrightness b s).wakeOwed = s.wakeOwed := rfl
@[simp] theorem setBrightness_window (b : Byte) : (setBrightness b s).window = s.window := rfl
@[simp] theorem setBrightness_stim (b : Byte) : (setBrightness b s).stim = s.stim := rfl
@[simp] theorem setBrightness_draws (b : Byte) : (setBrightness b s).draws = s.draws := rfl
@[simp] theorem setBrightness_trace (b : Byte) : (setBrightness b s).trace = s.trace := rfl

/-! markDirty -/

@[simp] theorem markDirty_acc : (markDirty s).acc = s.acc := rfl
@[simp] theorem markDirty_nbits : (markDirty s).nbits = s.nbits := rfl
@[simp] theorem markDirty_lastPulseTs : (markDirty s).lastPulseTs = s.lastPulseTs := rfl
@[simp] theorem markDirty_suppress : (markDirty s).suppress = s.suppress := rfl
@[simp] theorem markDirty_slotValid : (markDirty s).slotValid = s.slotValid := rfl
@[simp] theorem markDirty_slotDur : (markDirty s).slotDur = s.slotDur := rfl
@[simp] theorem markDirty_state : (markDirty s).state = s.state := rfl
@[simp] theorem markDirty_lastCommand : (markDirty s).lastCommand = s.lastCommand := rfl
@[simp] theorem markDirty_profValid : (markDirty s).profValid = s.profValid := rfl
@[simp] theorem markDirty_profFam : (markDirty s).profFam = s.profFam := rfl
@[simp] theorem markDirty_profIdx : (markDirty s).profIdx = s.profIdx := rfl
@[simp] theorem markDirty_colorMode : (markDirty s).colorMode = s.colorMode := rfl
@[simp] theorem markDirty_primaryColor : (markDirty s).primaryColor = s.primaryColor := rfl
@[simp] theorem markDirty_clashColor : (markDirty s).clashColor = s.clashColor := rfl
@[simp] theorem markDirty_wheelIndex : (markDirty s).wheelIndex = s.wheelIndex := rfl
@[simp] theorem markDirty_brightness : (markDirty s).brightness = s.brightness := rfl
@[simp] theorem markDirty_timerArmed : (markDirty s).timerArmed = s.timerArmed := rfl
@[simp] theorem markDirty_timerStart : (markDirty s).timerStart = s.timerStart := rfl
@[simp] theorem markDirty_timerLen : (markDirty s).timerLen = s.timerLen := rfl
@[simp] theorem markDirty_extTsValid : (markDirty s).extTsValid = s.extTsValid := rfl
@[simp] theorem markDirty_extTs : (markDirty s).extTs = s.extTs := rfl
@[simp] theorem markDirty_extPhase : (markDirty s).extPhase = s.extPhase := rfl
@[simp] theorem markDirty_animCount : (markDirty s).animCount = s.animCount := rfl
@[simp] theorem markDirty_dirty : (markDirty s).dirty = true := rfl
@[simp] theorem markDirty_ledPower : (markDirty s).ledPower = s.ledPower := rfl
@[simp] theorem markDirty_fb : (markDirty s).fb = s.fb := rfl
@[simp] theorem markDirty_sinkBrightness : (markDirty s).sinkBrightness = s.sinkBrightness := rfl
@[simp] theorem markDirty_cfg : (markDirty s).cfg = s.cfg := rfl
@[simp] theorem markDirty_now : (markDirty s).now = s.now := rfl
@[simp] theorem markDirty_wake : (markDirty s).wake = s.wake := rfl
@[simp] theorem markDirty_awakeAt : (markDirty s).awakeAt = s.awakeAt := rfl
@[simp] theorem markDirty_wakeOwed : (markDirty s).wakeOwed = s.wakeOwed := rfl
@[simp] theorem markDirty_window : (markDirty s).window = s.window := rfl
@[simp] theorem markDirty_stim : (markDirty s).stim = s.stim := rfl
@[simp] theorem markDirty_draws : (markDirty s).draws = s.draws := rfl
@[simp] theorem markDirty_trace : (markDirty s).trace = s.trace := rfl

/-! endPulse -/

@[simp] theorem endPulse_acc : (endPulse s).acc = s.acc := rfl
@[simp] theorem endPulse_nbits : (endPulse s).nbits = s.nbits := rfl
@[simp] theorem endPulse_lastPulseTs : (endPulse s).lastPulseTs = s.lastPulseTs := rfl
@[simp] theorem endPulse_suppress : (endPulse s).suppress = s.suppress := rfl
@[simp] theorem endPulse_slotValid : (endPulse s).slotValid = s.slotValid := rfl
@[simp] theorem endPulse_slotDur : (endPulse s).slotDur = s.slotDur := rfl
@[simp] theorem endPulse_state : (endPulse s).state = s.state := rfl
@[simp] theorem endPulse_lastCommand : (endPulse s).lastCommand = s.lastCommand := rfl
@[simp] theorem endPulse_profValid : (endPulse s).profValid = s.profValid := rfl
@[simp] theorem endPulse_profFam : (endPulse s).profFam = s.profFam := rfl
@[simp] theorem endPulse_profIdx : (endPulse s).profIdx = s.profIdx := rfl
@[simp] theorem endPulse_colorMode : (endPulse s).colorMode = s.colorMode := rfl
@[simp] theorem endPulse_primaryColor : (endPulse s).primaryColor = s.primaryColor := rfl
@[simp] theorem endPulse_clashColor : (endPulse s).clashColor = s.clashColor := rfl
@[simp] theorem endPulse_wheelIndex : (endPulse s).wheelIndex = s.wheelIndex := rfl
@[simp] theorem endPulse_brightness : (endPulse s).brightness = s.brightness := rfl
@[simp] theorem endPulse_timerArmed : (endPulse s).timerArmed = s.timerArmed := rfl
@[simp] theorem endPulse_timerStart : (endPulse s).timerStart = s.timerStart := rfl
@[simp] theorem endPulse_timerLen : (endPulse s).timerLen = s.timerLen := rfl
@[simp] theorem endPulse_extTsValid : (endPulse s).extTsValid = s.extTsValid := rfl
@[simp] theorem endPulse_extTs : (endPulse s).extTs = s.extTs := rfl
@[simp] theorem endPulse_extPhase : (endPulse s).extPhase = s.extPhase := rfl
@[simp] theorem endPulse_animCount : (endPulse s).animCount = s.animCount := rfl
@[simp] theorem endPulse_dirty : (endPulse s).dirty = s.dirty := rfl
@[simp] theorem endPulse_ledPower : (endPulse s).ledPower = s.ledPower := rfl
@[simp] theorem endPulse_fb : (endPulse s).fb = s.fb := rfl
@[simp] theorem endPulse_sinkBrightness : (endPulse s).sinkBrightness = s.sinkBrightness := rfl
@[simp] theorem endPulse_cfg : (endPulse s).cfg = s.cfg := rfl
@[simp] theorem endPulse_now : (endPulse s).now = s.now := rfl
@[simp] theorem endPulse_wake : (endPulse s).wake = s.wake := rfl
@[simp] theorem endPulse_awakeAt : (endPulse s).awakeAt = s.awakeAt := rfl
@[simp] theorem endPulse_wakeOwed : (endPulse s).wakeOwed = false := rfl
@[simp] theorem endPulse_window : (endPulse s).window = s.window.pulseEnded := rfl
@[simp] theorem endPulse_stim : (endPulse s).stim = s.stim := rfl
@[simp] theorem endPulse_draws : (endPulse s).draws = s.draws := rfl
@[simp] theorem endPulse_trace : (endPulse s).trace = s.trace := rfl

/-! armTimer -/

@[simp] theorem armTimer_acc (len : Time) : (armTimer len s).acc = s.acc := rfl
@[simp] theorem armTimer_nbits (len : Time) : (armTimer len s).nbits = s.nbits := rfl
@[simp] theorem armTimer_lastPulseTs (len : Time) : (armTimer len s).lastPulseTs = s.lastPulseTs := rfl
@[simp] theorem armTimer_suppress (len : Time) : (armTimer len s).suppress = s.suppress := rfl
@[simp] theorem armTimer_slotValid (len : Time) : (armTimer len s).slotValid = s.slotValid := rfl
@[simp] theorem armTimer_slotDur (len : Time) : (armTimer len s).slotDur = s.slotDur := rfl
@[simp] theorem armTimer_state (len : Time) : (armTimer len s).state = s.state := rfl
@[simp] theorem armTimer_lastCommand (len : Time) : (armTimer len s).lastCommand = s.lastCommand := rfl
@[simp] theorem armTimer_profValid (len : Time) : (armTimer len s).profValid = s.profValid := rfl
@[simp] theorem armTimer_profFam (len : Time) : (armTimer len s).profFam = s.profFam := rfl
@[simp] theorem armTimer_profIdx (len : Time) : (armTimer len s).profIdx = s.profIdx := rfl
@[simp] theorem armTimer_colorMode (len : Time) : (armTimer len s).colorMode = s.colorMode := rfl
@[simp] theorem armTimer_primaryColor (len : Time) : (armTimer len s).primaryColor = s.primaryColor := rfl
@[simp] theorem armTimer_clashColor (len : Time) : (armTimer len s).clashColor = s.clashColor := rfl
@[simp] theorem armTimer_wheelIndex (len : Time) : (armTimer len s).wheelIndex = s.wheelIndex := rfl
@[simp] theorem armTimer_brightness (len : Time) : (armTimer len s).brightness = s.brightness := rfl
@[simp] theorem armTimer_timerArmed (len : Time) : (armTimer len s).timerArmed = true := rfl
@[simp] theorem armTimer_timerStart (len : Time) : (armTimer len s).timerStart = s.now := rfl
@[simp] theorem armTimer_timerLen (len : Time) : (armTimer len s).timerLen = len := rfl
@[simp] theorem armTimer_extTsValid (len : Time) : (armTimer len s).extTsValid = s.extTsValid := rfl
@[simp] theorem armTimer_extTs (len : Time) : (armTimer len s).extTs = s.extTs := rfl
@[simp] theorem armTimer_extPhase (len : Time) : (armTimer len s).extPhase = s.extPhase := rfl
@[simp] theorem armTimer_animCount (len : Time) : (armTimer len s).animCount = s.animCount := rfl
@[simp] theorem armTimer_dirty (len : Time) : (armTimer len s).dirty = s.dirty := rfl
@[simp] theorem armTimer_ledPower (len : Time) : (armTimer len s).ledPower = s.ledPower := rfl
@[simp] theorem armTimer_fb (len : Time) : (armTimer len s).fb = s.fb := rfl
@[simp] theorem armTimer_sinkBrightness (len : Time) : (armTimer len s).sinkBrightness = s.sinkBrightness := rfl
@[simp] theorem armTimer_cfg (len : Time) : (armTimer len s).cfg = s.cfg := rfl
@[simp] theorem armTimer_now (len : Time) : (armTimer len s).now = s.now := rfl
@[simp] theorem armTimer_wake (len : Time) : (armTimer len s).wake = s.wake := rfl
@[simp] theorem armTimer_awakeAt (len : Time) : (armTimer len s).awakeAt = s.awakeAt := rfl
@[simp] theorem armTimer_wakeOwed (len : Time) : (armTimer len s).wakeOwed = s.wakeOwed := rfl
@[simp] theorem armTimer_window (len : Time) : (armTimer len s).window = s.window := rfl
@[simp] theorem armTimer_stim (len : Time) : (armTimer len s).stim = s.stim := rfl
@[simp] theorem armTimer_draws (len : Time) : (armTimer len s).draws = s.draws := rfl
@[simp] theorem armTimer_trace (len : Time) : (armTimer len s).trace = s.trace := rfl

/-! clearTimer -/

@[simp] theorem clearTimer_acc : (clearTimer s).acc = s.acc := rfl
@[simp] theorem clearTimer_nbits : (clearTimer s).nbits = s.nbits := rfl
@[simp] theorem clearTimer_lastPulseTs : (clearTimer s).lastPulseTs = s.lastPulseTs := rfl
@[simp] theorem clearTimer_suppress : (clearTimer s).suppress = s.suppress := rfl
@[simp] theorem clearTimer_slotValid : (clearTimer s).slotValid = s.slotValid := rfl
@[simp] theorem clearTimer_slotDur : (clearTimer s).slotDur = s.slotDur := rfl
@[simp] theorem clearTimer_state : (clearTimer s).state = s.state := rfl
@[simp] theorem clearTimer_lastCommand : (clearTimer s).lastCommand = s.lastCommand := rfl
@[simp] theorem clearTimer_profValid : (clearTimer s).profValid = s.profValid := rfl
@[simp] theorem clearTimer_profFam : (clearTimer s).profFam = s.profFam := rfl
@[simp] theorem clearTimer_profIdx : (clearTimer s).profIdx = s.profIdx := rfl
@[simp] theorem clearTimer_colorMode : (clearTimer s).colorMode = s.colorMode := rfl
@[simp] theorem clearTimer_primaryColor : (clearTimer s).primaryColor = s.primaryColor := rfl
@[simp] theorem clearTimer_clashColor : (clearTimer s).clashColor = s.clashColor := rfl
@[simp] theorem clearTimer_wheelIndex : (clearTimer s).wheelIndex = s.wheelIndex := rfl
@[simp] theorem clearTimer_brightness : (clearTimer s).brightness = s.brightness := rfl
@[simp] theorem clearTimer_timerArmed : (clearTimer s).timerArmed = false := rfl
@[simp] theorem clearTimer_timerStart : (clearTimer s).timerStart = s.timerStart := rfl
@[simp] theorem clearTimer_timerLen : (clearTimer s).timerLen = s.timerLen := rfl
@[simp] theorem clearTimer_extTsValid : (clearTimer s).extTsValid = s.extTsValid := rfl
@[simp] theorem clearTimer_extTs : (clearTimer s).extTs = s.extTs := rfl
@[simp] theorem clearTimer_extPhase : (clearTimer s).extPhase = s.extPhase := rfl
@[simp] theorem clearTimer_animCount : (clearTimer s).animCount = s.animCount := rfl
@[simp] theorem clearTimer_dirty : (clearTimer s).dirty = s.dirty := rfl
@[simp] theorem clearTimer_ledPower : (clearTimer s).ledPower = s.ledPower := rfl
@[simp] theorem clearTimer_fb : (clearTimer s).fb = s.fb := rfl
@[simp] theorem clearTimer_sinkBrightness : (clearTimer s).sinkBrightness = s.sinkBrightness := rfl
@[simp] theorem clearTimer_cfg : (clearTimer s).cfg = s.cfg := rfl
@[simp] theorem clearTimer_now : (clearTimer s).now = s.now := rfl
@[simp] theorem clearTimer_wake : (clearTimer s).wake = s.wake := rfl
@[simp] theorem clearTimer_awakeAt : (clearTimer s).awakeAt = s.awakeAt := rfl
@[simp] theorem clearTimer_wakeOwed : (clearTimer s).wakeOwed = s.wakeOwed := rfl
@[simp] theorem clearTimer_window : (clearTimer s).window = s.window := rfl
@[simp] theorem clearTimer_stim : (clearTimer s).stim = s.stim := rfl
@[simp] theorem clearTimer_draws : (clearTimer s).draws = s.draws := rfl
@[simp] theorem clearTimer_trace : (clearTimer s).trace = s.trace := rfl

/-! recordCommand -/

@[simp] theorem recordCommand_acc (c : Byte) : (recordCommand c s).acc = s.acc := rfl
@[simp] theorem recordCommand_nbits (c : Byte) : (recordCommand c s).nbits = s.nbits := rfl
@[simp] theorem recordCommand_lastPulseTs (c : Byte) : (recordCommand c s).lastPulseTs = s.lastPulseTs := rfl
@[simp] theorem recordCommand_suppress (c : Byte) : (recordCommand c s).suppress = s.suppress := rfl
@[simp] theorem recordCommand_slotValid (c : Byte) : (recordCommand c s).slotValid = s.slotValid := rfl
@[simp] theorem recordCommand_slotDur (c : Byte) : (recordCommand c s).slotDur = s.slotDur := rfl
@[simp] theorem recordCommand_state (c : Byte) : (recordCommand c s).state = s.state := rfl
@[simp] theorem recordCommand_lastCommand (c : Byte) : (recordCommand c s).lastCommand = c := rfl
@[simp] theorem recordCommand_profValid (c : Byte) : (recordCommand c s).profValid = s.profValid := rfl
@[simp] theorem recordCommand_profFam (c : Byte) : (recordCommand c s).profFam = s.profFam := rfl
@[simp] theorem recordCommand_profIdx (c : Byte) : (recordCommand c s).profIdx = s.profIdx := rfl
@[simp] theorem recordCommand_colorMode (c : Byte) : (recordCommand c s).colorMode = s.colorMode := rfl
@[simp] theorem recordCommand_primaryColor (c : Byte) : (recordCommand c s).primaryColor = s.primaryColor := rfl
@[simp] theorem recordCommand_clashColor (c : Byte) : (recordCommand c s).clashColor = s.clashColor := rfl
@[simp] theorem recordCommand_wheelIndex (c : Byte) : (recordCommand c s).wheelIndex = s.wheelIndex := rfl
@[simp] theorem recordCommand_brightness (c : Byte) : (recordCommand c s).brightness = s.brightness := rfl
@[simp] theorem recordCommand_timerArmed (c : Byte) : (recordCommand c s).timerArmed = s.timerArmed := rfl
@[simp] theorem recordCommand_timerStart (c : Byte) : (recordCommand c s).timerStart = s.timerStart := rfl
@[simp] theorem recordCommand_timerLen (c : Byte) : (recordCommand c s).timerLen = s.timerLen := rfl
@[simp] theorem recordCommand_extTsValid (c : Byte) : (recordCommand c s).extTsValid = s.extTsValid := rfl
@[simp] theorem recordCommand_extTs (c : Byte) : (recordCommand c s).extTs = s.extTs := rfl
@[simp] theorem recordCommand_extPhase (c : Byte) : (recordCommand c s).extPhase = s.extPhase := rfl
@[simp] theorem recordCommand_animCount (c : Byte) : (recordCommand c s).animCount = s.animCount := rfl
@[simp] theorem recordCommand_dirty (c : Byte) : (recordCommand c s).dirty = s.dirty := rfl
@[simp] theorem recordCommand_ledPower (c : Byte) : (recordCommand c s).ledPower = s.ledPower := rfl
@[simp] theorem recordCommand_fb (c : Byte) : (recordCommand c s).fb = s.fb := rfl
@[simp] theorem recordCommand_sinkBrightness (c : Byte) : (recordCommand c s).sinkBrightness = s.sinkBrightness := rfl
@[simp] theorem recordCommand_cfg (c : Byte) : (recordCommand c s).cfg = s.cfg := rfl
@[simp] theorem recordCommand_now (c : Byte) : (recordCommand c s).now = s.now := rfl
@[simp] theorem recordCommand_wake (c : Byte) : (recordCommand c s).wake = s.wake := rfl
@[simp] theorem recordCommand_awakeAt (c : Byte) : (recordCommand c s).awakeAt = s.awakeAt := rfl
@[simp] theorem recordCommand_wakeOwed (c : Byte) : (recordCommand c s).wakeOwed = s.wakeOwed := rfl
@[simp] theorem recordCommand_window (c : Byte) : (recordCommand c s).window = s.window := rfl
@[simp] theorem recordCommand_stim (c : Byte) : (recordCommand c s).stim = s.stim := rfl
@[simp] theorem recordCommand_draws (c : Byte) : (recordCommand c s).draws = s.draws := rfl
@[simp] theorem recordCommand_trace (c : Byte) : (recordCommand c s).trace = s.trace := rfl

/-! selectProfile -/

@[simp] theorem selectProfile_acc (f : Family) (p : Nibble) : (selectProfile f p s).acc = s.acc := rfl
@[simp] theorem selectProfile_nbits (f : Family) (p : Nibble) : (selectProfile f p s).nbits = s.nbits := rfl
@[simp] theorem selectProfile_lastPulseTs (f : Family) (p : Nibble) : (selectProfile f p s).lastPulseTs = s.lastPulseTs := rfl
@[simp] theorem selectProfile_suppress (f : Family) (p : Nibble) : (selectProfile f p s).suppress = s.suppress := rfl
@[simp] theorem selectProfile_slotValid (f : Family) (p : Nibble) : (selectProfile f p s).slotValid = s.slotValid := rfl
@[simp] theorem selectProfile_slotDur (f : Family) (p : Nibble) : (selectProfile f p s).slotDur = s.slotDur := rfl
@[simp] theorem selectProfile_state (f : Family) (p : Nibble) : (selectProfile f p s).state = s.state := rfl
@[simp] theorem selectProfile_lastCommand (f : Family) (p : Nibble) : (selectProfile f p s).lastCommand = s.lastCommand := rfl
@[simp] theorem selectProfile_profValid (f : Family) (p : Nibble) : (selectProfile f p s).profValid = true := rfl
@[simp] theorem selectProfile_profFam (f : Family) (p : Nibble) : (selectProfile f p s).profFam = f := rfl
@[simp] theorem selectProfile_profIdx (f : Family) (p : Nibble) : (selectProfile f p s).profIdx = p := rfl
@[simp] theorem selectProfile_colorMode (f : Family) (p : Nibble) : (selectProfile f p s).colorMode = s.colorMode := rfl
@[simp] theorem selectProfile_primaryColor (f : Family) (p : Nibble) : (selectProfile f p s).primaryColor = s.primaryColor := rfl
@[simp] theorem selectProfile_clashColor (f : Family) (p : Nibble) : (selectProfile f p s).clashColor = s.clashColor := rfl
@[simp] theorem selectProfile_wheelIndex (f : Family) (p : Nibble) : (selectProfile f p s).wheelIndex = s.wheelIndex := rfl
@[simp] theorem selectProfile_brightness (f : Family) (p : Nibble) : (selectProfile f p s).brightness = s.brightness := rfl
@[simp] theorem selectProfile_timerArmed (f : Family) (p : Nibble) : (selectProfile f p s).timerArmed = s.timerArmed := rfl
@[simp] theorem selectProfile_timerStart (f : Family) (p : Nibble) : (selectProfile f p s).timerStart = s.timerStart := rfl
@[simp] theorem selectProfile_timerLen (f : Family) (p : Nibble) : (selectProfile f p s).timerLen = s.timerLen := rfl
@[simp] theorem selectProfile_extTsValid (f : Family) (p : Nibble) : (selectProfile f p s).extTsValid = s.extTsValid := rfl
@[simp] theorem selectProfile_extTs (f : Family) (p : Nibble) : (selectProfile f p s).extTs = s.extTs := rfl
@[simp] theorem selectProfile_extPhase (f : Family) (p : Nibble) : (selectProfile f p s).extPhase = s.extPhase := rfl
@[simp] theorem selectProfile_animCount (f : Family) (p : Nibble) : (selectProfile f p s).animCount = s.animCount := rfl
@[simp] theorem selectProfile_dirty (f : Family) (p : Nibble) : (selectProfile f p s).dirty = s.dirty := rfl
@[simp] theorem selectProfile_ledPower (f : Family) (p : Nibble) : (selectProfile f p s).ledPower = s.ledPower := rfl
@[simp] theorem selectProfile_fb (f : Family) (p : Nibble) : (selectProfile f p s).fb = s.fb := rfl
@[simp] theorem selectProfile_sinkBrightness (f : Family) (p : Nibble) : (selectProfile f p s).sinkBrightness = s.sinkBrightness := rfl
@[simp] theorem selectProfile_cfg (f : Family) (p : Nibble) : (selectProfile f p s).cfg = s.cfg := rfl
@[simp] theorem selectProfile_now (f : Family) (p : Nibble) : (selectProfile f p s).now = s.now := rfl
@[simp] theorem selectProfile_wake (f : Family) (p : Nibble) : (selectProfile f p s).wake = s.wake := rfl
@[simp] theorem selectProfile_awakeAt (f : Family) (p : Nibble) : (selectProfile f p s).awakeAt = s.awakeAt := rfl
@[simp] theorem selectProfile_wakeOwed (f : Family) (p : Nibble) : (selectProfile f p s).wakeOwed = s.wakeOwed := rfl
@[simp] theorem selectProfile_window (f : Family) (p : Nibble) : (selectProfile f p s).window = s.window := rfl
@[simp] theorem selectProfile_stim (f : Family) (p : Nibble) : (selectProfile f p s).stim = s.stim := rfl
@[simp] theorem selectProfile_draws (f : Family) (p : Nibble) : (selectProfile f p s).draws = s.draws := rfl
@[simp] theorem selectProfile_trace (f : Family) (p : Nibble) : (selectProfile f p s).trace = s.trace := rfl

/-! setState -/

@[simp] theorem setState_acc (b : BladeState) : (setState b s).acc = s.acc := rfl
@[simp] theorem setState_nbits (b : BladeState) : (setState b s).nbits = s.nbits := rfl
@[simp] theorem setState_lastPulseTs (b : BladeState) : (setState b s).lastPulseTs = s.lastPulseTs := rfl
@[simp] theorem setState_suppress (b : BladeState) : (setState b s).suppress = s.suppress := rfl
@[simp] theorem setState_slotValid (b : BladeState) : (setState b s).slotValid = s.slotValid := rfl
@[simp] theorem setState_slotDur (b : BladeState) : (setState b s).slotDur = s.slotDur := rfl
@[simp] theorem setState_state (b : BladeState) : (setState b s).state = b := rfl
@[simp] theorem setState_lastCommand (b : BladeState) : (setState b s).lastCommand = s.lastCommand := rfl
@[simp] theorem setState_profValid (b : BladeState) : (setState b s).profValid = s.profValid := rfl
@[simp] theorem setState_profFam (b : BladeState) : (setState b s).profFam = s.profFam := rfl
@[simp] theorem setState_profIdx (b : BladeState) : (setState b s).profIdx = s.profIdx := rfl
@[simp] theorem setState_colorMode (b : BladeState) : (setState b s).colorMode = s.colorMode := rfl
@[simp] theorem setState_primaryColor (b : BladeState) : (setState b s).primaryColor = s.primaryColor := rfl
@[simp] theorem setState_clashColor (b : BladeState) : (setState b s).clashColor = s.clashColor := rfl
@[simp] theorem setState_wheelIndex (b : BladeState) : (setState b s).wheelIndex = s.wheelIndex := rfl
@[simp] theorem setState_brightness (b : BladeState) : (setState b s).brightness = s.brightness := rfl
@[simp] theorem setState_timerArmed (b : BladeState) : (setState b s).timerArmed = s.timerArmed := rfl
@[simp] theorem setState_timerStart (b : BladeState) : (setState b s).timerStart = s.timerStart := rfl
@[simp] theorem setState_timerLen (b : BladeState) : (setState b s).timerLen = s.timerLen := rfl
@[simp] theorem setState_extTsValid (b : BladeState) : (setState b s).extTsValid = s.extTsValid := rfl
@[simp] theorem setState_extTs (b : BladeState) : (setState b s).extTs = s.extTs := rfl
@[simp] theorem setState_extPhase (b : BladeState) : (setState b s).extPhase = s.extPhase := rfl
@[simp] theorem setState_animCount (b : BladeState) : (setState b s).animCount = s.animCount := rfl
@[simp] theorem setState_dirty (b : BladeState) : (setState b s).dirty = s.dirty := rfl
@[simp] theorem setState_ledPower (b : BladeState) : (setState b s).ledPower = s.ledPower := rfl
@[simp] theorem setState_fb (b : BladeState) : (setState b s).fb = s.fb := rfl
@[simp] theorem setState_sinkBrightness (b : BladeState) : (setState b s).sinkBrightness = s.sinkBrightness := rfl
@[simp] theorem setState_cfg (b : BladeState) : (setState b s).cfg = s.cfg := rfl
@[simp] theorem setState_now (b : BladeState) : (setState b s).now = s.now := rfl
@[simp] theorem setState_wake (b : BladeState) : (setState b s).wake = s.wake := rfl
@[simp] theorem setState_awakeAt (b : BladeState) : (setState b s).awakeAt = s.awakeAt := rfl
@[simp] theorem setState_wakeOwed (b : BladeState) : (setState b s).wakeOwed = s.wakeOwed := rfl
@[simp] theorem setState_window (b : BladeState) : (setState b s).window = s.window := rfl
@[simp] theorem setState_stim (b : BladeState) : (setState b s).stim = s.stim := rfl
@[simp] theorem setState_draws (b : BladeState) : (setState b s).draws = s.draws := rfl
@[simp] theorem setState_trace (b : BladeState) : (setState b s).trace = s.trace := rfl

/-! setAnimCount -/

@[simp] theorem setAnimCount_acc (n : Nat) : (setAnimCount n s).acc = s.acc := rfl
@[simp] theorem setAnimCount_nbits (n : Nat) : (setAnimCount n s).nbits = s.nbits := rfl
@[simp] theorem setAnimCount_lastPulseTs (n : Nat) : (setAnimCount n s).lastPulseTs = s.lastPulseTs := rfl
@[simp] theorem setAnimCount_suppress (n : Nat) : (setAnimCount n s).suppress = s.suppress := rfl
@[simp] theorem setAnimCount_slotValid (n : Nat) : (setAnimCount n s).slotValid = s.slotValid := rfl
@[simp] theorem setAnimCount_slotDur (n : Nat) : (setAnimCount n s).slotDur = s.slotDur := rfl
@[simp] theorem setAnimCount_state (n : Nat) : (setAnimCount n s).state = s.state := rfl
@[simp] theorem setAnimCount_lastCommand (n : Nat) : (setAnimCount n s).lastCommand = s.lastCommand := rfl
@[simp] theorem setAnimCount_profValid (n : Nat) : (setAnimCount n s).profValid = s.profValid := rfl
@[simp] theorem setAnimCount_profFam (n : Nat) : (setAnimCount n s).profFam = s.profFam := rfl
@[simp] theorem setAnimCount_profIdx (n : Nat) : (setAnimCount n s).profIdx = s.profIdx := rfl
@[simp] theorem setAnimCount_colorMode (n : Nat) : (setAnimCount n s).colorMode = s.colorMode := rfl
@[simp] theorem setAnimCount_primaryColor (n : Nat) : (setAnimCount n s).primaryColor = s.primaryColor := rfl
@[simp] theorem setAnimCount_clashColor (n : Nat) : (setAnimCount n s).clashColor = s.clashColor := rfl
@[simp] theorem setAnimCount_wheelIndex (n : Nat) : (setAnimCount n s).wheelIndex = s.wheelIndex := rfl
@[simp] theorem setAnimCount_brightness (n : Nat) : (setAnimCount n s).brightness = s.brightness := rfl
@[simp] theorem setAnimCount_timerArmed (n : Nat) : (setAnimCount n s).timerArmed = s.timerArmed := rfl
@[simp] theorem setAnimCount_timerStart (n : Nat) : (setAnimCount n s).timerStart = s.timerStart := rfl
@[simp] theorem setAnimCount_timerLen (n : Nat) : (setAnimCount n s).timerLen = s.timerLen := rfl
@[simp] theorem setAnimCount_extTsValid (n : Nat) : (setAnimCount n s).extTsValid = s.extTsValid := rfl
@[simp] theorem setAnimCount_extTs (n : Nat) : (setAnimCount n s).extTs = s.extTs := rfl
@[simp] theorem setAnimCount_extPhase (n : Nat) : (setAnimCount n s).extPhase = s.extPhase := rfl
@[simp] theorem setAnimCount_animCount (n : Nat) : (setAnimCount n s).animCount = n := rfl
@[simp] theorem setAnimCount_dirty (n : Nat) : (setAnimCount n s).dirty = s.dirty := rfl
@[simp] theorem setAnimCount_ledPower (n : Nat) : (setAnimCount n s).ledPower = s.ledPower := rfl
@[simp] theorem setAnimCount_fb (n : Nat) : (setAnimCount n s).fb = s.fb := rfl
@[simp] theorem setAnimCount_sinkBrightness (n : Nat) : (setAnimCount n s).sinkBrightness = s.sinkBrightness := rfl
@[simp] theorem setAnimCount_cfg (n : Nat) : (setAnimCount n s).cfg = s.cfg := rfl
@[simp] theorem setAnimCount_now (n : Nat) : (setAnimCount n s).now = s.now := rfl
@[simp] theorem setAnimCount_wake (n : Nat) : (setAnimCount n s).wake = s.wake := rfl
@[simp] theorem setAnimCount_awakeAt (n : Nat) : (setAnimCount n s).awakeAt = s.awakeAt := rfl
@[simp] theorem setAnimCount_wakeOwed (n : Nat) : (setAnimCount n s).wakeOwed = s.wakeOwed := rfl
@[simp] theorem setAnimCount_window (n : Nat) : (setAnimCount n s).window = s.window := rfl
@[simp] theorem setAnimCount_stim (n : Nat) : (setAnimCount n s).stim = s.stim := rfl
@[simp] theorem setAnimCount_draws (n : Nat) : (setAnimCount n s).draws = s.draws := rfl
@[simp] theorem setAnimCount_trace (n : Nat) : (setAnimCount n s).trace = s.trace := rfl

/-! emptyDecoder -/

@[simp] theorem emptyDecoder_acc (b : Bool) : (emptyDecoder b s).acc = 0#8 := rfl
@[simp] theorem emptyDecoder_nbits (b : Bool) : (emptyDecoder b s).nbits = 0#3 := rfl
@[simp] theorem emptyDecoder_lastPulseTs (b : Bool) : (emptyDecoder b s).lastPulseTs = s.lastPulseTs := rfl
@[simp] theorem emptyDecoder_suppress (b : Bool) : (emptyDecoder b s).suppress = b := rfl
@[simp] theorem emptyDecoder_slotValid (b : Bool) : (emptyDecoder b s).slotValid = s.slotValid := rfl
@[simp] theorem emptyDecoder_slotDur (b : Bool) : (emptyDecoder b s).slotDur = s.slotDur := rfl
@[simp] theorem emptyDecoder_state (b : Bool) : (emptyDecoder b s).state = s.state := rfl
@[simp] theorem emptyDecoder_lastCommand (b : Bool) : (emptyDecoder b s).lastCommand = s.lastCommand := rfl
@[simp] theorem emptyDecoder_profValid (b : Bool) : (emptyDecoder b s).profValid = s.profValid := rfl
@[simp] theorem emptyDecoder_profFam (b : Bool) : (emptyDecoder b s).profFam = s.profFam := rfl
@[simp] theorem emptyDecoder_profIdx (b : Bool) : (emptyDecoder b s).profIdx = s.profIdx := rfl
@[simp] theorem emptyDecoder_colorMode (b : Bool) : (emptyDecoder b s).colorMode = s.colorMode := rfl
@[simp] theorem emptyDecoder_primaryColor (b : Bool) : (emptyDecoder b s).primaryColor = s.primaryColor := rfl
@[simp] theorem emptyDecoder_clashColor (b : Bool) : (emptyDecoder b s).clashColor = s.clashColor := rfl
@[simp] theorem emptyDecoder_wheelIndex (b : Bool) : (emptyDecoder b s).wheelIndex = s.wheelIndex := rfl
@[simp] theorem emptyDecoder_brightness (b : Bool) : (emptyDecoder b s).brightness = s.brightness := rfl
@[simp] theorem emptyDecoder_timerArmed (b : Bool) : (emptyDecoder b s).timerArmed = s.timerArmed := rfl
@[simp] theorem emptyDecoder_timerStart (b : Bool) : (emptyDecoder b s).timerStart = s.timerStart := rfl
@[simp] theorem emptyDecoder_timerLen (b : Bool) : (emptyDecoder b s).timerLen = s.timerLen := rfl
@[simp] theorem emptyDecoder_extTsValid (b : Bool) : (emptyDecoder b s).extTsValid = s.extTsValid := rfl
@[simp] theorem emptyDecoder_extTs (b : Bool) : (emptyDecoder b s).extTs = s.extTs := rfl
@[simp] theorem emptyDecoder_extPhase (b : Bool) : (emptyDecoder b s).extPhase = s.extPhase := rfl
@[simp] theorem emptyDecoder_animCount (b : Bool) : (emptyDecoder b s).animCount = s.animCount := rfl
@[simp] theorem emptyDecoder_dirty (b : Bool) : (emptyDecoder b s).dirty = s.dirty := rfl
@[simp] theorem emptyDecoder_ledPower (b : Bool) : (emptyDecoder b s).ledPower = s.ledPower := rfl
@[simp] theorem emptyDecoder_fb (b : Bool) : (emptyDecoder b s).fb = s.fb := rfl
@[simp] theorem emptyDecoder_sinkBrightness (b : Bool) : (emptyDecoder b s).sinkBrightness = s.sinkBrightness := rfl
@[simp] theorem emptyDecoder_cfg (b : Bool) : (emptyDecoder b s).cfg = s.cfg := rfl
@[simp] theorem emptyDecoder_now (b : Bool) : (emptyDecoder b s).now = s.now := rfl
@[simp] theorem emptyDecoder_wake (b : Bool) : (emptyDecoder b s).wake = s.wake := rfl
@[simp] theorem emptyDecoder_awakeAt (b : Bool) : (emptyDecoder b s).awakeAt = s.awakeAt := rfl
@[simp] theorem emptyDecoder_wakeOwed (b : Bool) : (emptyDecoder b s).wakeOwed = s.wakeOwed := rfl
@[simp] theorem emptyDecoder_window (b : Bool) : (emptyDecoder b s).window = s.window := rfl
@[simp] theorem emptyDecoder_stim (b : Bool) : (emptyDecoder b s).stim = s.stim := rfl
@[simp] theorem emptyDecoder_draws (b : Bool) : (emptyDecoder b s).draws = s.draws := rfl
@[simp] theorem emptyDecoder_trace (b : Bool) : (emptyDecoder b s).trace = s.trace := rfl

/-! latchInputs -/

@[simp] theorem latchInputs_acc (n w : Time) : (latchInputs n w s).acc = s.acc := rfl
@[simp] theorem latchInputs_nbits (n w : Time) : (latchInputs n w s).nbits = s.nbits := rfl
@[simp] theorem latchInputs_lastPulseTs (n w : Time) : (latchInputs n w s).lastPulseTs = s.lastPulseTs := rfl
@[simp] theorem latchInputs_suppress (n w : Time) : (latchInputs n w s).suppress = s.suppress := rfl
@[simp] theorem latchInputs_slotValid (n w : Time) : (latchInputs n w s).slotValid = s.slotValid := rfl
@[simp] theorem latchInputs_slotDur (n w : Time) : (latchInputs n w s).slotDur = s.slotDur := rfl
@[simp] theorem latchInputs_state (n w : Time) : (latchInputs n w s).state = s.state := rfl
@[simp] theorem latchInputs_lastCommand (n w : Time) : (latchInputs n w s).lastCommand = s.lastCommand := rfl
@[simp] theorem latchInputs_profValid (n w : Time) : (latchInputs n w s).profValid = s.profValid := rfl
@[simp] theorem latchInputs_profFam (n w : Time) : (latchInputs n w s).profFam = s.profFam := rfl
@[simp] theorem latchInputs_profIdx (n w : Time) : (latchInputs n w s).profIdx = s.profIdx := rfl
@[simp] theorem latchInputs_colorMode (n w : Time) : (latchInputs n w s).colorMode = s.colorMode := rfl
@[simp] theorem latchInputs_primaryColor (n w : Time) : (latchInputs n w s).primaryColor = s.primaryColor := rfl
@[simp] theorem latchInputs_clashColor (n w : Time) : (latchInputs n w s).clashColor = s.clashColor := rfl
@[simp] theorem latchInputs_wheelIndex (n w : Time) : (latchInputs n w s).wheelIndex = s.wheelIndex := rfl
@[simp] theorem latchInputs_brightness (n w : Time) : (latchInputs n w s).brightness = s.brightness := rfl
@[simp] theorem latchInputs_timerArmed (n w : Time) : (latchInputs n w s).timerArmed = s.timerArmed := rfl
@[simp] theorem latchInputs_timerStart (n w : Time) : (latchInputs n w s).timerStart = s.timerStart := rfl
@[simp] theorem latchInputs_timerLen (n w : Time) : (latchInputs n w s).timerLen = s.timerLen := rfl
@[simp] theorem latchInputs_extTsValid (n w : Time) : (latchInputs n w s).extTsValid = s.extTsValid := rfl
@[simp] theorem latchInputs_extTs (n w : Time) : (latchInputs n w s).extTs = s.extTs := rfl
@[simp] theorem latchInputs_extPhase (n w : Time) : (latchInputs n w s).extPhase = s.extPhase := rfl
@[simp] theorem latchInputs_animCount (n w : Time) : (latchInputs n w s).animCount = s.animCount := rfl
@[simp] theorem latchInputs_dirty (n w : Time) : (latchInputs n w s).dirty = s.dirty := rfl
@[simp] theorem latchInputs_ledPower (n w : Time) : (latchInputs n w s).ledPower = s.ledPower := rfl
@[simp] theorem latchInputs_fb (n w : Time) : (latchInputs n w s).fb = s.fb := rfl
@[simp] theorem latchInputs_sinkBrightness (n w : Time) : (latchInputs n w s).sinkBrightness = s.sinkBrightness := rfl
@[simp] theorem latchInputs_cfg (n w : Time) : (latchInputs n w s).cfg = s.cfg := rfl
@[simp] theorem latchInputs_now (n w : Time) : (latchInputs n w s).now = n := rfl
@[simp] theorem latchInputs_wake (n w : Time) : (latchInputs n w s).wake = w := rfl
@[simp] theorem latchInputs_awakeAt (n w : Time) : (latchInputs n w s).awakeAt = n := rfl
@[simp] theorem latchInputs_wakeOwed (n w : Time) : (latchInputs n w s).wakeOwed = s.wakeOwed := rfl
@[simp] theorem latchInputs_window (n w : Time) : (latchInputs n w s).window = s.window.passStarted := rfl
@[simp] theorem latchInputs_stim (n w : Time) : (latchInputs n w s).stim = s.stim := rfl
@[simp] theorem latchInputs_draws (n w : Time) : (latchInputs n w s).draws = s.draws := rfl
@[simp] theorem latchInputs_trace (n w : Time) : (latchInputs n w s).trace = s.trace := rfl

end Sys2Proof.Machine
end

