-- ==== Sys2Proof/Laws/Arith.lean ====
section
/-! SUPPORT. The arithmetic of the animations and of the accumulator. -/

namespace Sys2Proof.Machine

/-- A target never exceeds the strip (43_tick.md R202). -/
theorem target_le (e len n : Nat) : target e len n ≤ n := by
  unfold target
  split <;> omega

theorem animTarget_le (s : State) : animTarget s ≤ nLog s.cfg := target_le _ _ _

/-- A zero-length animation is at once complete (R202). -/
theorem target_zero_len (e n : Nat) : target e 0 n = n := rfl

/-- Shifting a bit in is doubling modulo 256 and adding the bit (40_decoder.md R114). -/
theorem shiftIn_eq (a : Byte) (b : Bool) : shiftIn a b = BitVec.ofNat 8 (2 * a.toNat + b.toNat) := by
  revert a b
  decide

/-- The bits of a byte shifted out of an accumulator and back in. -/
theorem shiftIn_ushiftRight (c : Byte) : shiftIn (c >>> 1) (c.getLsbD 0) = c := by
  revert c
  decide

end Sys2Proof.Machine
end

