-- ==== Sys2Proof/Laws/Decoder.lean ====
section
/-! SUPPORT. What a decode pass can do (40_decoder.md), what a delivery can do (20_memory.md R71, R83), and what neither
touches. -/

namespace Sys2Proof.Machine

variable (s : State)

/-- A consumed pulse as a function of its duration: the accumulator emptied, a bit counted, or a byte published. -/
inductive PulseStep (d : Time) : State × Option Byte → Prop where
  | resync : PulseStep d (resyncPulse d { s with lastPulseTs := s.now }, none)
  | preamble : PulseStep d (preamblePulse d { s with lastPulseTs := s.now }, none)
  | counted (b : Bool) (hn : s.nbits ≠ 7#3) :
    PulseStep d ({ s with
      lastPulseTs := s.now, acc := shiftIn s.acc b, nbits := s.nbits + 1#3, suppress := true }, none)
  | published (b : Bool) (hn : s.nbits = 7#3) :
    PulseStep d ({ s with
      lastPulseTs := s.now, acc := shiftIn s.acc b, nbits := 0#3, suppress := false,
      trace := s.trace ++ [.command (shiftIn s.acc b)] }, some (shiftIn s.acc b))

theorem bitPulse_step (d : Time) (b : Bool) : PulseStep s d (bitPulse b { s with lastPulseTs := s.now }) := by
  unfold bitPulse
  by_cases h : s.nbits = 7#3
  · simp only [h, if_true]
    exact .published b h
  · simp only [h, if_false]
    exact .counted b h

/-- A consumed pulse does one of these things (R111 to R118). -/
theorem consumePulse_step (d : Time) : PulseStep s d (consumePulse d s) := by
  unfold consumePulse
  cases classify s.cfg d with
  | resync => exact .resync
  | preamble => exact .preamble
  | bit0 => exact bitPulse_step s d false
  | bit1 => exact bitPulse_step s d true

/-- Everything a decode pass can do: nothing, a timeout, or one consumed pulse (R111). -/
inductive DecodeStep : State × Option Byte → Prop where
  | quiet (hv : s.slotValid = false) (ht : timedOut s = false) : DecodeStep (s, none)
  | timeout (hv : s.slotValid = false) (ht : timedOut s = true) :
    DecodeStep (emit .timeout (emptyDecoder false s), none)
  | pulse (hv : s.slotValid = true) (r : State × Option Byte)
    (hr : PulseStep { s with slotValid := false } s.slotDur r) : DecodeStep r

/-- A decode pass does one of these things. -/
theorem decodePass_step : DecodeStep s (decodePass s) := by
  unfold decodePass take
  cases hv : s.slotValid with
  | false =>
    cases ht : timedOut s with
    | false => simpa [timeoutCheck, ht] using DecodeStep.quiet hv ht
    | true => simpa [timeoutCheck, ht] using DecodeStep.timeout hv ht
  | true => exact .pulse hv _ (consumePulse_step _ _)

/-- A decode pass leaves everything outside the decoder alone (R110). -/
@[simp] theorem decodePass_frame :
    ((decodePass s).1).slotDur = s.slotDur ∧
    ((decodePass s).1).state = s.state ∧
    ((decodePass s).1).lastCommand = s.lastCommand ∧
    ((decodePass s).1).profValid = s.profValid ∧
    ((decodePass s).1).profFam = s.profFam ∧
    ((decodePass s).1).profIdx = s.profIdx ∧
    ((decodePass s).1).colorMode = s.colorMode ∧
    ((decodePass s).1).primaryColor = s.primaryColor ∧
    ((decodePass s).1).clashColor = s.clashColor ∧
    ((decodePass s).1).wheelIndex = s.wheelIndex ∧
    ((decodePass s).1).brightness = s.brightness ∧
    ((decodePass s).1).timerArmed = s.timerArmed ∧
    ((decodePass s).1).timerStart = s.timerStart ∧
    ((decodePass s).1).timerLen = s.timerLen ∧
    ((decodePass s).1).extTsValid = s.extTsValid ∧
    ((decodePass s).1).extTs = s.extTs ∧
    ((decodePass s).1).extPhase = s.extPhase ∧
    ((decodePass s).1).animCount = s.animCount ∧
    ((decodePass s).1).dirty = s.dirty ∧
    ((decodePass s).1).ledPower = s.ledPower ∧
    ((decodePass s).1).fb = s.fb ∧
    ((decodePass s).1).sinkBrightness = s.sinkBrightness ∧
    ((decodePass s).1).cfg = s.cfg ∧
    ((decodePass s).1).now = s.now ∧
    ((decodePass s).1).wake = s.wake ∧
    ((decodePass s).1).awakeAt = s.awakeAt ∧
    ((decodePass s).1).wakeOwed = s.wakeOwed ∧
    ((decodePass s).1).window = s.window ∧
    ((decodePass s).1).stim = s.stim ∧
    ((decodePass s).1).draws = s.draws := by
  have hs := decodePass_step s
  generalize decodePass s = r at hs ⊢
  cases hs with
  | quiet | timeout => simp
  | pulse hv r hr => cases hr <;> simp [resyncPulse, preamblePulse]

/-- A decode pass leaves the slot empty (20_memory.md R72). -/
@[simp] theorem decodePass_slotValid : (decodePass s).1.slotValid = false := by
  have hs := decodePass_step s
  generalize decodePass s = r at hs ⊢
  cases hs with
  | quiet hv | timeout hv => simpa using hv
  | pulse hv r hr => cases hr <;> simp [resyncPulse, preamblePulse]

/-- An empty slot publishes nothing. -/
theorem decodePass_quiet (h : s.slotValid = false) : (decodePass s).2 = none := by
  simp [decodePass, take, h]

/-- A decode pass only appends to the trace, and no Sleep record (60_exceptions.md R262). -/
theorem decodePass_trace : ∃ a : List Record, (decodePass s).1.trace = s.trace ++ a ∧ .sleep ∉ a := by
  have hs := decodePass_step s
  generalize decodePass s = r at hs ⊢
  cases hs with
  | quiet => exact ⟨[], by simp⟩
  | timeout => exact ⟨[.timeout], by simp⟩
  | pulse hv r hr =>
    cases hr with
    | resync => exact ⟨[.resync s.slotDur], by simp [resyncPulse]⟩
    | preamble => exact ⟨[.preamble s.slotDur], by simp [preamblePulse]⟩
    | counted => exact ⟨[], by simp⟩
    | published b => exact ⟨[.command (shiftIn s.acc b)], by simp⟩

/-- After a decode pass, accumulated bits are covered by suppression (10_state.md R25). -/
theorem decodePass_decoder (h : s.nbits ≠ 0#3 → s.suppress = true) :
    (decodePass s).1.nbits ≠ 0#3 → (decodePass s).1.suppress = true := by
  have hs := decodePass_step s
  generalize decodePass s = r at hs ⊢
  cases hs with
  | quiet => exact h
  | timeout => simp
  | pulse hv r hr => cases hr <;> simp [resyncPulse, preamblePulse]

/-- A published byte leaves suppression off (R116). -/
theorem decodePass_published {c : Byte} (h : (decodePass s).2 = some c) : (decodePass s).1.suppress = false := by
  have hs := decodePass_step s
  generalize decodePass s = r at hs h ⊢
  cases hs with
  | quiet | timeout => simp at h
  | pulse hv r hr => cases hr <;> simp_all

/-- A pulse that ended twice ended once. -/
@[simp] theorem Window.pulseEnded_pulseEnded (w : Window) : w.pulseEnded.pulseEnded = w.pulseEnded := by cases w <;> rfl

/-- Only the last pass's present stays open when a pulse ends (log entry 10). -/
theorem Window.pulseEnded_eq (w : Window) : w.pulseEnded = if w = .latest then .latest else .shut := by cases w <;> rfl

/-- A delivery touches the slot, the draw counter and the notes that a pulse ended and nothing else (20_memory.md
R71). -/
theorem deliver_frame (d : Time) :
    deliver d s = { s with
      slotValid := true, slotDur := (deliver d s).slotDur, draws := (deliver d s).draws, wakeOwed := false,
      window := s.window.pulseEnded } := by
  unfold deliver endPulse
  cases hv : s.slotValid <;> simp

/-- So does a pulse that overlaps a present (R83). -/
theorem deliverOverlapped_frame :
    ∃ v d n, deliverOverlapped s = { s with
      slotValid := v, slotDur := d, draws := n, wakeOwed := false, window := s.window.pulseEnded } := by
  unfold deliverOverlapped
  cases Config.freeCapture s.draws with
  | none => exact ⟨s.slotValid, s.slotDur, _, rfl⟩
  | some d => exact ⟨true, _, _, deliver_frame { s with draws := s.draws + 1 } d⟩

end Sys2Proof.Machine
end

