-- ==== Sys2Proof/Laws/Strip.lean ====
section
/-! SUPPORT. The strip: what lighting and darkening logical pixels does to the sink buffer, pixel by pixel
(20_memory.md R65, R66, R68; 43_tick.md R203, R205), and that it does nothing else. -/

namespace Sys2Proof.Machine

/-- A physical pixel of the strip is driven by a logical pixel below `N_LOG`. -/
theorem logicalOf_lt {cfg : Config} {j : Nat} (h : j < cfg.nPixels) : logicalOf cfg j < nLog cfg := by
  unfold logicalOf nLog
  split <;> omega

/-- `Phys` and `logicalOf` are inverse: logical pixel k drives exactly the physical pixels whose logical pixel it is. -/
theorem mem_phys_iff {cfg : Config} {j k : Nat} (hj : j < cfg.nPixels) (hk : k < nLog cfg) :
    j ∈ phys cfg k ↔ logicalOf cfg j = k := by
  unfold nLog at hk
  unfold phys logicalOf
  by_cases hm : cfg.mirrored = true
  · simp only [hm, if_true, true_and] at *
    split <;> simp <;> omega
  · simp [hm]

theorem setPixels_frame (js : List Nat) (c : Rgb) (s : State) :
    js.foldl (fun t j => setPixel j c t) s = { s with fb := (js.foldl (fun t j => setPixel j c t) s).fb } := by
  induction js generalizing s with
  | nil => rfl
  | cons j js ih =>
    rw [List.foldl_cons, ih]
    rfl

theorem setPixels_length (js : List Nat) (c : Rgb) (s : State) :
    (js.foldl (fun t j => setPixel j c t) s).fb.length = s.fb.length := by
  induction js generalizing s with
  | nil => rfl
  | cons j js ih => rw [List.foldl_cons, ih, setPixel_fb, List.length_set]

theorem setPixels_get (js : List Nat) (c : Rgb) (s : State) {i : Nat} (hi : i < s.fb.length) :
    (js.foldl (fun t j => setPixel j c t) s).fb[i]? = if i ∈ js then some c else s.fb[i]? := by
  induction js generalizing s with
  | nil => simp
  | cons j js ih =>
    have hl : i < (setPixel j c s).fb.length := by simpa using hi
    rw [List.foldl_cons, ih _ hl, setPixel_fb, List.getElem?_set]
    by_cases h : i ∈ js
    · simp [h]
    · by_cases e : j = i
      · subst e; simp [hi]
      · have e' : i ≠ j := fun h => e h.symm
        simp [h, e, e']

/-- `LightLogical` writes the sink buffer and nothing else. -/
theorem lightLogical_frame (k : Nat) (c : Rgb) (s : State) :
    lightLogical k c s = { s with fb := (lightLogical k c s).fb } := setPixels_frame _ _ _

theorem lightLogical_length (k : Nat) (c : Rgb) (s : State) :
    (lightLogical k c s).fb.length = s.fb.length := setPixels_length _ _ _

/-- `LightLogical(k, c)` colours exactly the physical pixels of logical pixel k (R65). -/
theorem lightLogical_get {k : Nat} {c : Rgb} {s : State} {j : Nat} (hs : s.fb.length = s.cfg.nPixels)
    (hk : k < nLog s.cfg) (hj : j < s.cfg.nPixels) :
    (lightLogical k c s).fb[j]? = if logicalOf s.cfg j = k then some c else s.fb[j]? := by
  rw [lightLogical, setPixels_get _ _ _ (by omega)]
  simp only [mem_phys_iff hj hk]

/-- Lighting a run of logical pixels writes the sink buffer and nothing else. -/
theorem lightUp_frame (c : Rgb) (k n : Nat) (s : State) :
    lightUp c k n s = { s with fb := (lightUp c k n s).fb } := by
  induction n generalizing k s with
  | zero => rfl
  | succ n ih =>
    rw [lightUp, ih, lightLogical_frame]

theorem lightUp_length (c : Rgb) (k n : Nat) (s : State) : (lightUp c k n s).fb.length = s.fb.length := by
  induction n generalizing k s with
  | zero => rfl
  | succ n ih => rw [lightUp, ih, lightLogical_length]

/-- Lighting the n logical pixels from k on colours exactly their physical pixels. -/
theorem lightUp_get {c : Rgb} {k n : Nat} {s : State} {j : Nat} (hs : s.fb.length = s.cfg.nPixels)
    (hn : k + n ≤ nLog s.cfg) (hj : j < s.cfg.nPixels) :
    (lightUp c k n s).fb[j]? =
      if k ≤ logicalOf s.cfg j ∧ logicalOf s.cfg j < k + n then some c else s.fb[j]? := by
  induction n generalizing k s with
  | zero =>
    rw [lightUp, if_neg (by omega)]
  | succ n ih =>
    have hc : (lightLogical k c s).cfg = s.cfg := by rw [lightLogical_frame]
    have hl := lightLogical_length k c s
    rw [lightUp, ih (by rw [hc, hl, hs]) (by rw [hc]; omega) (by rw [hc]; exact hj), hc,
      lightLogical_get hs (by omega) hj]
    by_cases h1 : k + 1 ≤ logicalOf s.cfg j ∧ logicalOf s.cfg j < k + 1 + n
    · rw [if_pos h1, if_pos (by omega)]
    · by_cases h2 : logicalOf s.cfg j = k
      · rw [if_neg h1, if_pos h2, if_pos (by omega)]
      · rw [if_neg h1, if_neg h2, if_neg (by omega)]

/-- Darkening from the tip writes the sink buffer and nothing else. -/
theorem darken_frame (m n : Nat) (s : State) : darken m n s = { s with fb := (darken m n s).fb } := by
  induction n generalizing m s with
  | zero => rfl
  | succ n ih =>
    rw [darken, ih, lightLogical_frame]

theorem darken_length (m n : Nat) (s : State) : (darken m n s).fb.length = s.fb.length := by
  induction n generalizing m s with
  | zero => rfl
  | succ n ih => rw [darken, ih, lightLogical_length]

/-- Darkening the n logical pixels after the first m from the tip blackens exactly their physical pixels. -/
theorem darken_get {m n : Nat} {s : State} {j : Nat} (hs : s.fb.length = s.cfg.nPixels)
    (hn : m + n ≤ nLog s.cfg) (hj : j < s.cfg.nPixels) :
    (darken m n s).fb[j]? =
      if nLog s.cfg ≤ logicalOf s.cfg j + (m + n) ∧ logicalOf s.cfg j + m < nLog s.cfg then some Rgb.black
      else s.fb[j]? := by
  have hlt := logicalOf_lt hj
  induction n generalizing m s with
  | zero =>
    rw [darken, if_neg (by omega)]
  | succ n ih =>
    have hc : (lightLogical (nLog s.cfg - 1 - m) Rgb.black s).cfg = s.cfg := by rw [lightLogical_frame]
    have hl := lightLogical_length (nLog s.cfg - 1 - m) Rgb.black s
    rw [darken, ih (by rw [hc, hl, hs]) (by rw [hc]; omega) (by rw [hc]; exact hj) (by rw [hc]; exact hlt), hc,
      lightLogical_get hs (by omega) hj]
    by_cases h1 : nLog s.cfg ≤ logicalOf s.cfg j + (m + 1 + n) ∧ logicalOf s.cfg j + (m + 1) < nLog s.cfg
    · rw [if_pos h1, if_pos (by omega)]
    · by_cases h2 : logicalOf s.cfg j = nLog s.cfg - 1 - m
      · rw [if_neg h1, if_pos h2, if_pos (by omega)]
      · rw [if_neg h1, if_neg h2, if_neg (by omega)]

/-- `FillRange` colours exactly its range, inside the strip (R67). -/
theorem fillRange_get (c : Rgb) (a n : Nat) (s : State) (j : Nat) :
    (fillRange c a n s).fb[j]? = s.fb[j]?.map fun old => if a ≤ j ∧ j < a + n then c else old := by
  simp [fillRange]

end Sys2Proof.Machine
end

