-- ==== Sys2Proof/Laws/Entry.lean ====
section
/-! SUPPORT. What entering a state can do, said once for every entry (42_state_entry.md): what no entry writes, and what
each entry leaves of the fields the invariants speak of. -/

namespace Sys2Proof.Machine

variable (s : State)

/-- The guard of a set-color, as a disjunction (41_commands.md R151). -/
theorem settled_iff : settled s = decide (s.state = .idle ∨ s.state = .off) := by
  unfold settled
  generalize s.state = b
  cases b <;> simp

/-- The pre-ignition states, as a disjunction (10_state.md R31). -/
theorem preIgnition_iff : preIgnition s = decide (s.state = .uninitialized ∨ s.state = .off) := by
  unfold preIgnition
  generalize s.state = b
  cases b <;> simp

/-- The next mode of a mode the rules write is one they write (R175). -/
theorem nextMode_legal (m : ColorMode) : (nextMode m).legal = m.legal := by cases m <;> rfl

/-- `Derive()` writes the two colours and nothing else (R176). -/
theorem derive_frame :
    derive s = { s with primaryColor := (derive s).primaryColor, clashColor := (derive s).clashColor } := by
  unfold derive
  split <;> rfl

@[simp] theorem derive_fields :
    (derive s).acc = s.acc ∧
    (derive s).nbits = s.nbits ∧
    (derive s).lastPulseTs = s.lastPulseTs ∧
    (derive s).suppress = s.suppress ∧
    (derive s).slotValid = s.slotValid ∧
    (derive s).slotDur = s.slotDur ∧
    (derive s).state = s.state ∧
    (derive s).lastCommand = s.lastCommand ∧
    (derive s).profValid = s.profValid ∧
    (derive s).profFam = s.profFam ∧
    (derive s).profIdx = s.profIdx ∧
    (derive s).colorMode = s.colorMode ∧
    (derive s).wheelIndex = s.wheelIndex ∧
    (derive s).brightness = s.brightness ∧
    (derive s).timerArmed = s.timerArmed ∧
    (derive s).timerStart = s.timerStart ∧
    (derive s).timerLen = s.timerLen ∧
    (derive s).extTsValid = s.extTsValid ∧
    (derive s).extTs = s.extTs ∧
    (derive s).extPhase = s.extPhase ∧
    (derive s).animCount = s.animCount ∧
    (derive s).dirty = s.dirty ∧
    (derive s).ledPower = s.ledPower ∧
    (derive s).fb = s.fb ∧
    (derive s).sinkBrightness = s.sinkBrightness ∧
    (derive s).cfg = s.cfg ∧
    (derive s).now = s.now ∧
    (derive s).wake = s.wake ∧
    (derive s).awakeAt = s.awakeAt ∧
    (derive s).wakeOwed = s.wakeOwed ∧
    (derive s).window = s.window ∧
    (derive s).stim = s.stim ∧
    (derive s).draws = s.draws ∧
    (derive s).trace = s.trace := by
  rw [derive_frame]
  simp

/-- A quick re-ignite writes the colour mode and nothing else (R175). -/
@[simp] theorem advanceMode_fields :
    (advanceMode s).acc = s.acc ∧
    (advanceMode s).nbits = s.nbits ∧
    (advanceMode s).lastPulseTs = s.lastPulseTs ∧
    (advanceMode s).suppress = s.suppress ∧
    (advanceMode s).slotValid = s.slotValid ∧
    (advanceMode s).slotDur = s.slotDur ∧
    (advanceMode s).state = s.state ∧
    (advanceMode s).lastCommand = s.lastCommand ∧
    (advanceMode s).profValid = s.profValid ∧
    (advanceMode s).profFam = s.profFam ∧
    (advanceMode s).profIdx = s.profIdx ∧
    (advanceMode s).wheelIndex = s.wheelIndex ∧
    (advanceMode s).brightness = s.brightness ∧
    (advanceMode s).timerArmed = s.timerArmed ∧
    (advanceMode s).timerStart = s.timerStart ∧
    (advanceMode s).timerLen = s.timerLen ∧
    (advanceMode s).extTsValid = s.extTsValid ∧
    (advanceMode s).extTs = s.extTs ∧
    (advanceMode s).extPhase = s.extPhase ∧
    (advanceMode s).animCount = s.animCount ∧
    (advanceMode s).dirty = s.dirty ∧
    (advanceMode s).ledPower = s.ledPower ∧
    (advanceMode s).fb = s.fb ∧
    (advanceMode s).sinkBrightness = s.sinkBrightness ∧
    (advanceMode s).cfg = s.cfg ∧
    (advanceMode s).now = s.now ∧
    (advanceMode s).wake = s.wake ∧
    (advanceMode s).awakeAt = s.awakeAt ∧
    (advanceMode s).wakeOwed = s.wakeOwed ∧
    (advanceMode s).window = s.window ∧
    (advanceMode s).stim = s.stim ∧
    (advanceMode s).draws = s.draws ∧
    (advanceMode s).trace = s.trace ∧
    (advanceMode s).primaryColor = s.primaryColor ∧
    (advanceMode s).clashColor = s.clashColor := by
  unfold advanceMode
  split <;> simp

/-- The colour mode after step 1 of Igniting's entry (R171). -/
@[simp] theorem advanceMode_colorMode :
    (advanceMode s).colorMode = if quickReignite s then nextMode s.colorMode else s.colorMode := by
  unfold advanceMode
  split <;> rfl

/-- Setting the state does not change whether a re-ignite is quick. -/
@[simp] theorem quickReignite_setState (b : BladeState) : quickReignite (setState b s) = quickReignite s := rfl

/-- Driving the LED power writes the output and the trace and nothing else (10_state.md R42). -/
@[simp] theorem setPower_fields (level : Bool) :
    (setPower level s).acc = s.acc ∧
    (setPower level s).nbits = s.nbits ∧
    (setPower level s).lastPulseTs = s.lastPulseTs ∧
    (setPower level s).suppress = s.suppress ∧
    (setPower level s).slotValid = s.slotValid ∧
    (setPower level s).slotDur = s.slotDur ∧
    (setPower level s).state = s.state ∧
    (setPower level s).lastCommand = s.lastCommand ∧
    (setPower level s).profValid = s.profValid ∧
    (setPower level s).profFam = s.profFam ∧
    (setPower level s).profIdx = s.profIdx ∧
    (setPower level s).colorMode = s.colorMode ∧
    (setPower level s).wheelIndex = s.wheelIndex ∧
    (setPower level s).brightness = s.brightness ∧
    (setPower level s).timerArmed = s.timerArmed ∧
    (setPower level s).timerStart = s.timerStart ∧
    (setPower level s).timerLen = s.timerLen ∧
    (setPower level s).extTsValid = s.extTsValid ∧
    (setPower level s).extTs = s.extTs ∧
    (setPower level s).extPhase = s.extPhase ∧
    (setPower level s).animCount = s.animCount ∧
    (setPower level s).dirty = s.dirty ∧
    (setPower level s).fb = s.fb ∧
    (setPower level s).sinkBrightness = s.sinkBrightness ∧
    (setPower level s).cfg = s.cfg ∧
    (setPower level s).now = s.now ∧
    (setPower level s).wake = s.wake ∧
    (setPower level s).awakeAt = s.awakeAt ∧
    (setPower level s).wakeOwed = s.wakeOwed ∧
    (setPower level s).window = s.window ∧
    (setPower level s).stim = s.stim ∧
    (setPower level s).draws = s.draws ∧
    (setPower level s).primaryColor = s.primaryColor ∧
    (setPower level s).clashColor = s.clashColor := by
  unfold setPower
  split <;> simp

/-- The LED power after driving it: the level, or what it was where there is no gate (R42). -/
@[simp] theorem setPower_ledPower (level : Bool) :
    (setPower level s).ledPower = if s.cfg.hasPowerGate then level else s.ledPower := by
  unfold setPower
  split <;> simp

/-- No entry writes the decoder, the slot, the inputs, the command, the profile or the wheel phase. -/
@[simp] theorem enter_frame (b : BladeState) :
    (enter b s).acc = s.acc ∧
    (enter b s).nbits = s.nbits ∧
    (enter b s).lastPulseTs = s.lastPulseTs ∧
    (enter b s).suppress = s.suppress ∧
    (enter b s).slotValid = s.slotValid ∧
    (enter b s).slotDur = s.slotDur ∧
    (enter b s).cfg = s.cfg ∧
    (enter b s).now = s.now ∧
    (enter b s).wake = s.wake ∧
    (enter b s).stim = s.stim ∧
    (enter b s).draws = s.draws ∧
    (enter b s).awakeAt = s.awakeAt ∧
    (enter b s).wakeOwed = s.wakeOwed ∧
    (enter b s).window = s.window ∧
    (enter b s).wheelIndex = s.wheelIndex ∧
    (enter b s).lastCommand = s.lastCommand ∧
    (enter b s).profValid = s.profValid ∧
    (enter b s).profFam = s.profFam ∧
    (enter b s).profIdx = s.profIdx := by
  cases b <;>
    simp only [enter, enterOff, enterIgniting, enterOn, enterIdle, enterClash, enterExtinguishing, enterRefresh,
      enterFlickerLow, enterFlickerHigh, startFlicker] <;>
    repeat' first | split | simp

/-- The strip keeps its length through every entry (20_memory.md R68). -/
theorem enter_strip (b : BladeState) (h : s.fb.length = s.cfg.nPixels) :
    (enter b s).fb.length = s.cfg.nPixels := by
  cases b <;>
    simp only [enter, enterOff, enterIgniting, enterOn, enterIdle, enterClash, enterExtinguishing, enterRefresh,
      enterFlickerLow, enterFlickerHigh, startFlicker] <;>
    repeat' first | split | simp [h]

/-- The state an entry leaves: its own, but for the two pass-through states, which leave Idle (R173, R179, R184). -/
theorem enter_state (b : BladeState) :
    (enter b s).state = match b with
      | .on | .refresh => .idle
      | b => b := by
  cases b <;>
    simp only [enter, enterOff, enterIgniting, enterOn, enterIdle, enterClash, enterExtinguishing, enterRefresh,
      enterFlickerLow, enterFlickerHigh, startFlicker] <;>
    repeat' first | split | simp

/-- An entry leaves a timed state with its timer armed (R171, R172, R177, R178, R181). -/
theorem enter_timer (b : BladeState) (h : b.timed = true) : (enter b s).timerArmed = true := by
  cases b <;> simp [BladeState.timed] at h <;>
    simp [enter, enterOff, enterIgniting, enterClash, enterExtinguishing, enterFlickerLow, enterFlickerHigh,
      startFlicker]

/-- An entry keeps the animation's count or returns it to 0 (R171, R178). -/
theorem enter_animCount (b : BladeState) : (enter b s).animCount = s.animCount ∨ (enter b s).animCount = 0 := by
  cases b <;>
    simp only [enter, enterOff, enterIgniting, enterOn, enterIdle, enterClash, enterExtinguishing, enterRefresh,
      enterFlickerLow, enterFlickerHigh, startFlicker] <;>
    repeat' first | split | simp

/-- The colour mode after an entry: advanced by a quick ignite, else as it was (10_state.md R33). -/
theorem enter_colorMode (b : BladeState) :
    (enter b s).colorMode =
      if b = .igniting ∧ quickReignite s = true then nextMode s.colorMode else s.colorMode := by
  cases b <;>
    simp only [enter, enterOff, enterIgniting, enterOn, enterIdle, enterClash, enterExtinguishing, enterRefresh,
      enterFlickerLow, enterFlickerHigh, startFlicker] <;>
    (repeat' first | split | simp) <;> simp_all

/-- The LED power after an entry: raised by Igniting, cut by Off, where there is a gate; else as it was (R42). -/
theorem enter_ledPower (b : BladeState) :
    (enter b s).ledPower =
      if s.cfg.hasPowerGate = true ∧ b = .igniting then true
      else if s.cfg.hasPowerGate = true ∧ b = .off then false else s.ledPower := by
  cases b <;>
    simp only [enter, enterOff, enterIgniting, enterOn, enterIdle, enterClash, enterExtinguishing, enterRefresh,
      enterFlickerLow, enterFlickerHigh, startFlicker] <;>
    (repeat' first | split | simp) <;> simp_all

/-- The extinguish record after an entry: written by Extinguishing alone (10_state.md R38). -/
theorem enter_extTs (b : BladeState) :
    (enter b s).extTsValid = (s.extTsValid || decide (b = .extinguishing)) ∧
    (enter b s).extTs = if b = .extinguishing then s.now else s.extTs := by
  cases b <;>
    simp only [enter, enterOff, enterIgniting, enterOn, enterIdle, enterClash, enterExtinguishing, enterRefresh,
      enterFlickerLow, enterFlickerHigh, startFlicker] <;>
    (repeat' first | split | simp) <;> simp_all

/-- An entry only appends to the trace, and no Sleep record (60_exceptions.md R262, R273). -/
theorem enter_trace (b : BladeState) : ∃ a : List Record, (enter b s).trace = s.trace ++ a ∧ .sleep ∉ a := by
  have hP : ∀ (level : Bool) (u : State), u.trace = s.trace →
      ∃ a : List Record, (setPower level u).trace = s.trace ++ a ∧ .sleep ∉ a := fun level u h => by
    unfold setPower
    split
    · exact ⟨[.power level], by simp [h]⟩
    · exact ⟨[], by simp [h]⟩
  cases b with
  | off =>
    obtain ⟨a, e, ha⟩ := hP false (markDirty (fillAll Rgb.black (setState .off s))) (by simp)
    exact ⟨a, by simpa [enter, enterOff] using e, ha⟩
  | igniting =>
    obtain ⟨a, e, ha⟩ := hP true (derive (advanceMode (setState .igniting s))) (by simp)
    exact ⟨a, by simpa [enter, enterIgniting] using e, ha⟩
  | idle => exact ⟨[], by simp only [enter, enterIdle]; split <;> simp⟩
  | on => exact ⟨[], by simp only [enter, enterOn, enterIdle]; split <;> simp⟩
  | refresh => exact ⟨[], by simp only [enter, enterRefresh, enterOn, enterIdle]; split <;> split <;> simp⟩
  | _ => exact ⟨[], by simp [enter, enterClash, enterExtinguishing, enterFlickerLow, enterFlickerHigh, startFlicker]⟩

end Sys2Proof.Machine
end

