-- ==== Sys2Proof/Laws/Exec.lean ====
section
/-! SUPPORT. What a command can do, said once for all of them (41_commands.md R140 to R157). -/

namespace Sys2Proof.Machine

variable (s : State)

/-- Everything a command can do after `last_command` is written: a record and nothing else, an entry, or the choice of
a profile and an entry. -/
inductive CommandStep (i : Instr) : State → Prop where
  | recorded (r : Record) (hr : r ≠ .sleep) : CommandStep i (emit r (recordCommand (encodeByte i) s))
  | turnedOff : CommandStep i (enter .off (recordCommand (encodeByte i) s))
  | entered (b : BladeState) (hp : s.profValid = true)
    (hb : b = .extinguishing ∨ b = .flickerLow ∨ b = .flickerHigh ∨ b = .clash) :
    CommandStep i (enter b (recordCommand (encodeByte i) s))
  | ignited (f : Family) :
    CommandStep i (enter .igniting (selectProfile f i.param (recordCommand (encodeByte i) s)))
  | refreshed (f : Family) (hs : settled s = true) :
    CommandStep i (enter .refresh (selectProfile f i.param (recordCommand (encodeByte i) s)))

theorem enterWithProfile_step (i : Instr) (b : BladeState)
    (hb : b = .extinguishing ∨ b = .flickerLow ∨ b = .flickerHigh ∨ b = .clash) :
    CommandStep s i (enterWithProfile b (encodeByte i) (recordCommand (encodeByte i) s)) := by
  unfold enterWithProfile
  split
  · rename_i h
    exact .entered b h hb
  · exact .recorded _ (by simp)

theorem setColor_step (i : Instr) (f : Family) :
    CommandStep s i (setColor f i.param (encodeByte i) (recordCommand (encodeByte i) s)) := by
  unfold setColor
  split
  · rename_i h
    exact .refreshed f h
  · exact .recorded _ (by simp)

/-- Every command completes, and does one of these things. -/
theorem exec_step (i : Instr) : ∃ t, exec i s = .next t ∧ CommandStep s i t := by
  cases i with
  | nop0 p => exact ⟨_, rfl, .recorded _ (by simp)⟩
  | nop1 p => exact ⟨_, rfl, .recorded _ (by simp)⟩
  | igniteA p => exact ⟨_, rfl, .ignited .a⟩
  | igniteB p => exact ⟨_, rfl, .ignited .b⟩
  | extinguish4 p => exact ⟨_, rfl, enterWithProfile_step s _ _ (by simp)⟩
  | extinguish5 p => exact ⟨_, rfl, enterWithProfile_step s _ _ (by simp)⟩
  | flickerLo p => exact ⟨_, rfl, enterWithProfile_step s _ _ (by simp)⟩
  | flickerHi p => exact ⟨_, rfl, enterWithProfile_step s _ _ (by simp)⟩
  | off8 p => exact ⟨_, rfl, .turnedOff⟩
  | off9 p => exact ⟨_, rfl, .turnedOff⟩
  | setcolorA p => exact ⟨_, rfl, setColor_step s _ .a⟩
  | setcolorB p => exact ⟨_, rfl, setColor_step s _ .b⟩
  | clashC p => exact ⟨_, rfl, enterWithProfile_step s _ _ (by simp)⟩
  | clashD p => exact ⟨_, rfl, enterWithProfile_step s _ _ (by simp)⟩
  | offE p => exact ⟨_, rfl, .turnedOff⟩
  | offF p => exact ⟨_, rfl, .turnedOff⟩

/-- What a command that completed did. -/
theorem exec_next_step {i : Instr} {t : State} (h : exec i s = .next t) : CommandStep s i t := by
  obtain ⟨u, hu, hc⟩ := exec_step s i
  rw [h] at hu
  cases hu
  exact hc

/-- No command writes the decoder, the slot, the inputs or the wheel phase. -/
theorem CommandStep.frame {i : Instr} {t : State} (h : CommandStep s i t) :
    t.acc = s.acc ∧
    t.nbits = s.nbits ∧
    t.lastPulseTs = s.lastPulseTs ∧
    t.suppress = s.suppress ∧
    t.slotValid = s.slotValid ∧
    t.slotDur = s.slotDur ∧
    t.cfg = s.cfg ∧
    t.now = s.now ∧
    t.wake = s.wake ∧
    t.awakeAt = s.awakeAt ∧
    t.wakeOwed = s.wakeOwed ∧
    t.window = s.window ∧
    t.stim = s.stim ∧
    t.draws = s.draws ∧
    t.wheelIndex = s.wheelIndex := by
  cases h <;> simp

/-- A command keeps the strip's length. -/
theorem CommandStep.strip {i : Instr} {t : State} (h : CommandStep s i t) (hl : s.fb.length = s.cfg.nPixels) :
    t.fb.length = s.cfg.nPixels := by
  cases h with
  | recorded => exact hl
  | _ => exact (enter_strip _ _ (by simpa using hl)).trans (by simp)

/-- A command keeps the count within the strip. -/
theorem CommandStep.count {i : Instr} {t : State} (h : CommandStep s i t) (hl : s.animCount ≤ nLog s.cfg) :
    t.animCount ≤ nLog s.cfg := by
  have key : ∀ (b : BladeState) (u : State), u.animCount ≤ nLog s.cfg → (enter b u).animCount ≤ nLog s.cfg := by
    intro b u hu
    rcases enter_animCount u b with e | e <;> omega
  cases h with
  | recorded => exact hl
  | _ => exact key _ _ (by simpa using hl)

/-- A command never loses the profile or the extinguish record (10_state.md R29, R38). -/
theorem CommandStep.keeps {i : Instr} {t : State} (h : CommandStep s i t) :
    (s.profValid = true → t.profValid = true) ∧ (s.extTsValid = true → t.extTsValid = true) := by
  cases h <;> simp +contextual [enter_extTs]

/-- A command only appends to the trace, and no Sleep record (60_exceptions.md R262, R273). -/
theorem CommandStep.trace {i : Instr} {t : State} (h : CommandStep s i t) :
    ∃ a : List Record, t.trace = s.trace ++ a ∧ .sleep ∉ a := by
  cases h with
  | recorded r hr => exact ⟨[r], rfl, by simpa using hr.symm⟩
  | _ => obtain ⟨a, e, ha⟩ := enter_trace _ _; exact ⟨a, e, ha⟩

end Sys2Proof.Machine
end

