-- ==== Sys2Proof/Laws/PerInstr.lean ====
section
/-! SUPPORT. Statements made per instruction. `OpcodeRow`: the instruction's byte matches its row of
spec/opcode_table.json under the mask 0xF0, and no other row, and carries the parameter in its low nibble. -/

namespace Sys2Proof.Laws.OpcodeRow

/-- The "match" of an instruction's row in spec/opcode_table.json. -/
def rowMatch : Instr → Byte
  | .nop0 _ => 0x00#8
  | .nop1 _ => 0x10#8
  | .igniteA _ => 0x20#8
  | .igniteB _ => 0x30#8
  | .extinguish4 _ => 0x40#8
  | .extinguish5 _ => 0x50#8
  | .flickerLo _ => 0x60#8
  | .flickerHi _ => 0x70#8
  | .off8 _ => 0x80#8
  | .off9 _ => 0x90#8
  | .setcolorA _ => 0xA0#8
  | .setcolorB _ => 0xB0#8
  | .clashC _ => 0xC0#8
  | .clashD _ => 0xD0#8
  | .offE _ => 0xE0#8
  | .offF _ => 0xF0#8

/-- The encoding meets its row: match under the mask, and the parameter in bits 3:0. -/
def Statement (i : Instr) : Prop :=
  encodeByte i &&& 0xF0#8 = rowMatch i ∧ paramOf (encodeByte i) = i.param ∧ famOf (encodeByte i) = i.fam

theorem nop0 (p : Nibble) : Statement (.nop0 p) := by
  unfold Statement
  revert p
  decide

theorem nop1 (p : Nibble) : Statement (.nop1 p) := by
  unfold Statement
  revert p
  decide

theorem igniteA (p : Nibble) : Statement (.igniteA p) := by
  unfold Statement
  revert p
  decide

theorem igniteB (p : Nibble) : Statement (.igniteB p) := by
  unfold Statement
  revert p
  decide

theorem extinguish4 (p : Nibble) : Statement (.extinguish4 p) := by
  unfold Statement
  revert p
  decide

theorem extinguish5 (p : Nibble) : Statement (.extinguish5 p) := by
  unfold Statement
  revert p
  decide

theorem flickerLo (p : Nibble) : Statement (.flickerLo p) := by
  unfold Statement
  revert p
  decide

theorem flickerHi (p : Nibble) : Statement (.flickerHi p) := by
  unfold Statement
  revert p
  decide

theorem off8 (p : Nibble) : Statement (.off8 p) := by
  unfold Statement
  revert p
  decide

theorem off9 (p : Nibble) : Statement (.off9 p) := by
  unfold Statement
  revert p
  decide

theorem setcolorA (p : Nibble) : Statement (.setcolorA p) := by
  unfold Statement
  revert p
  decide

theorem setcolorB (p : Nibble) : Statement (.setcolorB p) := by
  unfold Statement
  revert p
  decide

theorem clashC (p : Nibble) : Statement (.clashC p) := by
  unfold Statement
  revert p
  decide

theorem clashD (p : Nibble) : Statement (.clashD p) := by
  unfold Statement
  revert p
  decide

theorem offE (p : Nibble) : Statement (.offE p) := by
  unfold Statement
  revert p
  decide

theorem offF (p : Nibble) : Statement (.offF p) := by
  unfold Statement
  revert p
  decide

end Sys2Proof.Laws.OpcodeRow
end

