-- ==== Sys2Proof/Laws/Tick.lean ====
section
/-! SUPPORT. What a tick can do, said once for all of them (43_tick.md): what no tick writes, where a tick can move the
state, and what it leaves of the fields the invariants speak of. -/

namespace Sys2Proof.Machine

variable (s : State)

@[simp] theorem lightUp_fields (c : Rgb) (k n : Nat) :
    (lightUp c k n s).acc = s.acc ∧
    (lightUp c k n s).nbits = s.nbits ∧
    (lightUp c k n s).lastPulseTs = s.lastPulseTs ∧
    (lightUp c k n s).suppress = s.suppress ∧
    (lightUp c k n s).slotValid = s.slotValid ∧
    (lightUp c k n s).slotDur = s.slotDur ∧
    (lightUp c k n s).state = s.state ∧
    (lightUp c k n s).lastCommand = s.lastCommand ∧
    (lightUp c k n s).profValid = s.profValid ∧
    (lightUp c k n s).profFam = s.profFam ∧
    (lightUp c k n s).profIdx = s.profIdx ∧
    (lightUp c k n s).colorMode = s.colorMode ∧
    (lightUp c k n s).primaryColor = s.primaryColor ∧
    (lightUp c k n s).clashColor = s.clashColor ∧
    (lightUp c k n s).wheelIndex = s.wheelIndex ∧
    (lightUp c k n s).brightness = s.brightness ∧
    (lightUp c k n s).timerArmed = s.timerArmed ∧
    (lightUp c k n s).timerStart = s.timerStart ∧
    (lightUp c k n s).timerLen = s.timerLen ∧
    (lightUp c k n s).extTsValid = s.extTsValid ∧
    (lightUp c k n s).extTs = s.extTs ∧
    (lightUp c k n s).extPhase = s.extPhase ∧
    (lightUp c k n s).animCount = s.animCount ∧
    (lightUp c k n s).dirty = s.dirty ∧
    (lightUp c k n s).ledPower = s.ledPower ∧
    (lightUp c k n s).sinkBrightness = s.sinkBrightness ∧
    (lightUp c k n s).cfg = s.cfg ∧
    (lightUp c k n s).now = s.now ∧
    (lightUp c k n s).wake = s.wake ∧
    (lightUp c k n s).awakeAt = s.awakeAt ∧
    (lightUp c k n s).wakeOwed = s.wakeOwed ∧
    (lightUp c k n s).window = s.window ∧
    (lightUp c k n s).stim = s.stim ∧
    (lightUp c k n s).draws = s.draws ∧
    (lightUp c k n s).trace = s.trace := by
  rw [lightUp_frame]
  simp

@[simp] theorem darken_fields (m n : Nat) :
    (darken m n s).acc = s.acc ∧
    (darken m n s).nbits = s.nbits ∧
    (darken m n s).lastPulseTs = s.lastPulseTs ∧
    (darken m n s).suppress = s.suppress ∧
    (darken m n s).slotValid = s.slotValid ∧
    (darken m n s).slotDur = s.slotDur ∧
    (darken m n s).state = s.state ∧
    (darken m n s).lastCommand = s.lastCommand ∧
    (darken m n s).profValid = s.profValid ∧
    (darken m n s).profFam = s.profFam ∧
    (darken m n s).profIdx = s.profIdx ∧
    (darken m n s).colorMode = s.colorMode ∧
    (darken m n s).primaryColor = s.primaryColor ∧
    (darken m n s).clashColor = s.clashColor ∧
    (darken m n s).wheelIndex = s.wheelIndex ∧
    (darken m n s).brightness = s.brightness ∧
    (darken m n s).timerArmed = s.timerArmed ∧
    (darken m n s).timerStart = s.timerStart ∧
    (darken m n s).timerLen = s.timerLen ∧
    (darken m n s).extTsValid = s.extTsValid ∧
    (darken m n s).extTs = s.extTs ∧
    (darken m n s).extPhase = s.extPhase ∧
    (darken m n s).animCount = s.animCount ∧
    (darken m n s).dirty = s.dirty ∧
    (darken m n s).ledPower = s.ledPower ∧
    (darken m n s).sinkBrightness = s.sinkBrightness ∧
    (darken m n s).cfg = s.cfg ∧
    (darken m n s).now = s.now ∧
    (darken m n s).wake = s.wake ∧
    (darken m n s).awakeAt = s.awakeAt ∧
    (darken m n s).wakeOwed = s.wakeOwed ∧
    (darken m n s).window = s.window ∧
    (darken m n s).stim = s.stim ∧
    (darken m n s).draws = s.draws ∧
    (darken m n s).trace = s.trace := by
  rw [darken_frame]
  simp

/-- Progress writes the count and the dirty flag and nothing else. -/
@[simp] theorem progress_fields (t : Nat) :
    (progress t s).acc = s.acc ∧
    (progress t s).nbits = s.nbits ∧
    (progress t s).lastPulseTs = s.lastPulseTs ∧
    (progress t s).suppress = s.suppress ∧
    (progress t s).slotValid = s.slotValid ∧
    (progress t s).slotDur = s.slotDur ∧
    (progress t s).state = s.state ∧
    (progress t s).lastCommand = s.lastCommand ∧
    (progress t s).profValid = s.profValid ∧
    (progress t s).profFam = s.profFam ∧
    (progress t s).profIdx = s.profIdx ∧
    (progress t s).colorMode = s.colorMode ∧
    (progress t s).primaryColor = s.primaryColor ∧
    (progress t s).clashColor = s.clashColor ∧
    (progress t s).wheelIndex = s.wheelIndex ∧
    (progress t s).brightness = s.brightness ∧
    (progress t s).timerArmed = s.timerArmed ∧
    (progress t s).timerStart = s.timerStart ∧
    (progress t s).timerLen = s.timerLen ∧
    (progress t s).extTsValid = s.extTsValid ∧
    (progress t s).extTs = s.extTs ∧
    (progress t s).extPhase = s.extPhase ∧
    (progress t s).ledPower = s.ledPower ∧
    (progress t s).fb = s.fb ∧
    (progress t s).sinkBrightness = s.sinkBrightness ∧
    (progress t s).cfg = s.cfg ∧
    (progress t s).now = s.now ∧
    (progress t s).wake = s.wake ∧
    (progress t s).awakeAt = s.awakeAt ∧
    (progress t s).wakeOwed = s.wakeOwed ∧
    (progress t s).window = s.window ∧
    (progress t s).stim = s.stim ∧
    (progress t s).draws = s.draws ∧
    (progress t s).trace = s.trace := by
  unfold progress
  split <;> simp

/-- The count after progress: the larger of what it was and the target. -/
@[simp] theorem progress_animCount (t : Nat) : (progress t s).animCount = max s.animCount t := by
  unfold progress
  split <;> simp <;> omega

/-- The dirty flag after progress: raised where the target passed the count. -/
@[simp] theorem progress_dirty (t : Nat) : (progress t s).dirty = (s.dirty || decide (s.animCount < t)) := by
  unfold progress
  split <;> simp_all

/-- The clash toggle writes the mode and the two colours and nothing else (R210). -/
@[simp] theorem clashToggle_fields :
    (clashToggle s).acc = s.acc ∧
    (clashToggle s).nbits = s.nbits ∧
    (clashToggle s).lastPulseTs = s.lastPulseTs ∧
    (clashToggle s).suppress = s.suppress ∧
    (clashToggle s).slotValid = s.slotValid ∧
    (clashToggle s).slotDur = s.slotDur ∧
    (clashToggle s).state = s.state ∧
    (clashToggle s).lastCommand = s.lastCommand ∧
    (clashToggle s).profValid = s.profValid ∧
    (clashToggle s).profFam = s.profFam ∧
    (clashToggle s).profIdx = s.profIdx ∧
    (clashToggle s).wheelIndex = s.wheelIndex ∧
    (clashToggle s).brightness = s.brightness ∧
    (clashToggle s).timerArmed = s.timerArmed ∧
    (clashToggle s).timerStart = s.timerStart ∧
    (clashToggle s).timerLen = s.timerLen ∧
    (clashToggle s).extTsValid = s.extTsValid ∧
    (clashToggle s).extTs = s.extTs ∧
    (clashToggle s).extPhase = s.extPhase ∧
    (clashToggle s).animCount = s.animCount ∧
    (clashToggle s).dirty = s.dirty ∧
    (clashToggle s).ledPower = s.ledPower ∧
    (clashToggle s).fb = s.fb ∧
    (clashToggle s).sinkBrightness = s.sinkBrightness ∧
    (clashToggle s).cfg = s.cfg ∧
    (clashToggle s).now = s.now ∧
    (clashToggle s).wake = s.wake ∧
    (clashToggle s).awakeAt = s.awakeAt ∧
    (clashToggle s).wakeOwed = s.wakeOwed ∧
    (clashToggle s).window = s.window ∧
    (clashToggle s).stim = s.stim ∧
    (clashToggle s).draws = s.draws ∧
    (clashToggle s).trace = s.trace := by
  unfold clashToggle
  split <;> simp

/-- What the wheel advance does not write (R214). -/
@[simp] theorem wheelAdvance_fields :
    (wheelAdvance s).acc = s.acc ∧
    (wheelAdvance s).nbits = s.nbits ∧
    (wheelAdvance s).lastPulseTs = s.lastPulseTs ∧
    (wheelAdvance s).suppress = s.suppress ∧
    (wheelAdvance s).slotValid = s.slotValid ∧
    (wheelAdvance s).slotDur = s.slotDur ∧
    (wheelAdvance s).state = s.state ∧
    (wheelAdvance s).lastCommand = s.lastCommand ∧
    (wheelAdvance s).profValid = s.profValid ∧
    (wheelAdvance s).profFam = s.profFam ∧
    (wheelAdvance s).profIdx = s.profIdx ∧
    (wheelAdvance s).colorMode = s.colorMode ∧
    (wheelAdvance s).clashColor = s.clashColor ∧
    (wheelAdvance s).brightness = s.brightness ∧
    (wheelAdvance s).timerArmed = s.timerArmed ∧
    (wheelAdvance s).extTsValid = s.extTsValid ∧
    (wheelAdvance s).extTs = s.extTs ∧
    (wheelAdvance s).extPhase = s.extPhase ∧
    (wheelAdvance s).animCount = s.animCount ∧
    (wheelAdvance s).ledPower = s.ledPower ∧
    (wheelAdvance s).sinkBrightness = s.sinkBrightness ∧
    (wheelAdvance s).cfg = s.cfg ∧
    (wheelAdvance s).now = s.now ∧
    (wheelAdvance s).wake = s.wake ∧
    (wheelAdvance s).awakeAt = s.awakeAt ∧
    (wheelAdvance s).wakeOwed = s.wakeOwed ∧
    (wheelAdvance s).window = s.window ∧
    (wheelAdvance s).stim = s.stim ∧
    (wheelAdvance s).draws = s.draws ∧
    (wheelAdvance s).trace = s.trace := by
  simp [wheelAdvance]

/-- The darkening animation's start: as it stands, or, once the delay elapsed, from this pass on (R204). -/
inductive DarkStart : State → Prop where
  | running (h : s.state = .extinguishing) (hp : s.extPhase = .anim) (ha : s.timerArmed = true) : DarkStart s
  | starting (h : s.state = .extinguishing) (hp : s.extPhase = .delay) (he : elapsed s = true) :
    DarkStart
      { s with extPhase := .anim, timerStart := s.now, timerLen := (activeProfile s).extinguishTime }

/-- Everything a tick can do (43_tick.md R200): one case per effect, with the conditions under which it happens. -/
inductive TickStep : State → Prop where
  | still : TickStep s
  | light (h : s.state = .igniting) (ha : s.timerArmed = true) :
    TickStep (progress (animTarget s) (lightUp s.primaryColor s.animCount (animTarget s - s.animCount) s))
  | lit (h : s.state = .igniting) (ha : s.timerArmed = true) (ht : animTarget s = nLog s.cfg) :
    TickStep (enter .on (clearTimer
      (progress (animTarget s) (lightUp s.primaryColor s.animCount (animTarget s - s.animCount) s))))
  | dark (u : State) (hu : DarkStart s u) :
    TickStep (progress (animTarget u) (darken u.animCount (animTarget u - u.animCount) u))
  | darkened (u : State) (hu : DarkStart s u) (ht : animTarget u = nLog u.cfg) :
    TickStep (enter .off (clearTimer
      (progress (animTarget u) (darken u.animCount (animTarget u - u.animCount) u))))
  | slept (h : s.state = .off) (he : elapsed s = true) :
    TickStep { s with
      timerStart := s.wake, awakeAt := s.wake, wakeOwed := true, window := s.window.slept, trace := s.trace ++ [.sleep] }
  | advanced (h : s.state = .idle) (hc : s.colorMode.cycles = true) (he : elapsed s = true) :
    TickStep (wheelAdvance s)
  | clashed (h : s.state = .clash) (he : elapsed s = true) :
    TickStep (enter .idle (clearTimer (markDirty (fillAll (clashToggle s).primaryColor (clashToggle s)))))
  | flickered (h : s.state = .flickerLow ∨ s.state = .flickerHigh) (he : elapsed s = true) :
    TickStep (enter .idle (clearTimer (markDirty (setBrightness (dim s.brightness) s))))

/-- An elapsed timer is armed. -/
theorem armed_of_elapsed {s : State} (h : elapsed s = true) : s.timerArmed = true := by
  simp only [elapsed, Bool.and_eq_true] at h
  exact h.1

/-- A started darkening runs in Extinguishing's animation phase, timer armed, and differs from the state by the phase
and the timer alone. -/
theorem DarkStart.eq {s u : State} (h : DarkStart s u) : s.state = .extinguishing ∧ u.timerArmed = true ∧
    ∃ a b, u = { s with extPhase := .anim, timerStart := a, timerLen := b } := by
  cases h with
  | running h hp ha =>
    refine ⟨h, ha, s.timerStart, s.timerLen, ?_⟩
    rw [← hp]
  | starting h hp he => exact ⟨h, (armed_of_elapsed he : s.timerArmed = true), _, _, rfl⟩

theorem extAnimTick_step {s u : State} (hu : DarkStart s u) : TickStep s (extAnimTick u) := by
  have ha : u.timerArmed = true := hu.eq.2.1
  simp only [extAnimTick, ha, if_true]
  split
  · rename_i ht
    simp only [progress_fields, darken_fields] at ht
    exact .darkened u hu ht
  · exact .dark u hu

/-- A tick does one of these things. -/
theorem tick_step : TickStep s (tick s) := by
  unfold tick
  split
  · rename_i h
    unfold ignitingTick
    split
    · rename_i ha
      simp only
      split
      · rename_i ht
        simp only [progress_fields, lightUp_fields] at ht
        exact .lit h ha ht
      · exact .light h ha
    · exact .still
  · rename_i h
    split
    · rename_i hp
      unfold extDelayTick
      split
      · rename_i he
        exact extAnimTick_step (.starting h hp he)
      · exact .still
    · rename_i hp
      by_cases ha : s.timerArmed = true
      · exact extAnimTick_step (.running h hp ha)
      · simp only [extAnimTick, ha]
        exact .still
  · rename_i h
    unfold offTick
    split
    · rename_i he
      exact .slept h he
    · exact .still
  · rename_i h
    unfold idleTick
    split
    · rename_i hc
      exact .advanced h hc.1 hc.2
    · exact .still
  · rename_i h
    unfold clashTick
    split
    · rename_i he
      exact .clashed h he
    · exact .still
  · rename_i h
    unfold flickerLowTick endFlicker
    split
    · rename_i he
      exact .flickered (.inl h) he
    · exact .still
  · rename_i h
    unfold flickerHighTick endFlicker
    split
    · rename_i he
      exact .flickered (.inr h) he
    · exact .still
  all_goals exact .still

/-- No tick writes the decoder, the slot, the inputs, the command, the profile or the extinguish record. -/
@[simp] theorem tick_frame :
    (tick s).acc = s.acc ∧
    (tick s).nbits = s.nbits ∧
    (tick s).lastPulseTs = s.lastPulseTs ∧
    (tick s).suppress = s.suppress ∧
    (tick s).slotValid = s.slotValid ∧
    (tick s).slotDur = s.slotDur ∧
    (tick s).cfg = s.cfg ∧
    (tick s).now = s.now ∧
    (tick s).wake = s.wake ∧
    (tick s).stim = s.stim ∧
    (tick s).draws = s.draws ∧
    (tick s).lastCommand = s.lastCommand ∧
    (tick s).profValid = s.profValid ∧
    (tick s).profFam = s.profFam ∧
    (tick s).profIdx = s.profIdx ∧
    (tick s).extTsValid = s.extTsValid ∧
    (tick s).extTs = s.extTs := by
  have hs := tick_step s
  generalize tick s = t at hs ⊢
  cases hs with
  | dark u hu => obtain ⟨-, -, a, b, rfl⟩ := hu.eq; simp
  | darkened u hu => obtain ⟨-, -, a, b, rfl⟩ := hu.eq; simp [enter_extTs]
  | _ => simp [enter_extTs]

/-- A tick asks for sleep, from Off with its timer elapsed, or leaves the wake alone (43_tick.md R207). -/
theorem tick_wake : (s.state = .off ∧ elapsed s = true ∧ tick s = { s with
      timerStart := s.wake, awakeAt := s.wake, wakeOwed := true, window := s.window.slept, trace := s.trace ++ [.sleep] }) ∨
    (sleepDue s = false ∧ (tick s).awakeAt = s.awakeAt ∧ (tick s).wakeOwed = s.wakeOwed) := by
  by_cases hd : sleepDue s = true
  · unfold sleepDue at hd
    split at hd
    · rename_i h
      exact .inl ⟨h, hd, by simp only [tick, h, offTick, hd, if_true, requestSleep, emit]⟩
    · cases hd
  · refine .inr ⟨by simpa using hd, ?_⟩
    have hs := tick_step s
    generalize tick s = t at hs ⊢
    cases hs with
    | slept h he => simp [sleepDue, h, he] at hd
    | dark u hu | darkened u hu => obtain ⟨-, -, a, b, rfl⟩ := hu.eq; simp
    | _ => simp

/-- A tick only appends to the trace, and a Sleep record only where it asks for sleep (60_exceptions.md R262, R273). -/
theorem tick_trace : ∃ a : List Record, (tick s).trace = s.trace ++ a ∧ (.sleep ∈ a → s.state = .off ∧ elapsed s = true) := by
  have hE : ∀ (b : BladeState) (u : State), u.trace = s.trace → ∃ a : List Record,
      (enter b u).trace = s.trace ++ a ∧ (.sleep ∈ a → s.state = .off ∧ elapsed s = true) := fun b u h => by
    obtain ⟨a, e, ha⟩ := enter_trace u b
    exact ⟨a, by rw [e, h], fun hn => absurd hn ha⟩
  have hs := tick_step s
  generalize tick s = t at hs ⊢
  cases hs with
  | slept h he => exact ⟨[.sleep], rfl, fun _ => ⟨h, he⟩⟩
  | still | light | advanced => exact ⟨[], by simp⟩
  | dark u hu => obtain ⟨-, -, a, b, rfl⟩ := hu.eq; exact ⟨[], by simp⟩
  | darkened u hu => obtain ⟨-, -, a, b, rfl⟩ := hu.eq; exact hE _ _ (by simp)
  | _ => exact hE _ _ (by simp)

/-- The strip keeps its length through a tick. -/
theorem tick_strip (h : s.fb.length = s.cfg.nPixels) : (tick s).fb.length = s.cfg.nPixels := by
  have hs := tick_step s
  generalize tick s = t at hs ⊢
  cases hs with
  | still | slept => exact h
  | light => simpa [lightUp_length] using h
  | lit => exact (enter_strip _ _ (by simpa [lightUp_length] using h)).trans (by simp)
  | dark u hu => obtain ⟨-, -, a, b, rfl⟩ := hu.eq; simpa [darken_length] using h
  | darkened u hu =>
    obtain ⟨-, -, a, b, rfl⟩ := hu.eq
    exact (enter_strip _ _ (by simpa [darken_length] using h)).trans (by simp)
  | advanced => simp [wheelAdvance]
  | clashed => exact (enter_strip _ _ (by simp)).trans (by simp)
  | flickered => exact (enter_strip _ _ (by simpa using h)).trans (by simp)

/-- The count stays within the strip through a tick (10_state.md R40). -/
theorem tick_count (h : s.animCount ≤ nLog s.cfg) : (tick s).animCount ≤ nLog s.cfg := by
  have key : ∀ (b : BladeState) (u : State), u.animCount ≤ nLog s.cfg → (enter b u).animCount ≤ nLog s.cfg := by
    intro b u hu
    rcases enter_animCount u b with e | e <;> omega
  have hs := tick_step s
  generalize tick s = t at hs ⊢
  cases hs with
  | still | slept => exact h
  | light => simpa using ⟨h, animTarget_le s⟩
  | lit => exact key _ _ (by simpa using ⟨h, animTarget_le s⟩)
  | dark u hu =>
    obtain ⟨-, -, a, b, rfl⟩ := hu.eq
    simpa using ⟨h, animTarget_le _⟩
  | darkened u hu =>
    obtain ⟨-, -, a, b, rfl⟩ := hu.eq
    exact key _ _ (by simpa using ⟨h, animTarget_le _⟩)
  | advanced => simpa using h
  | clashed => exact key _ _ (by simpa using h)
  | flickered => exact key _ _ (by simpa using h)

end Sys2Proof.Machine
end

