-- ==== Sys2Proof/Laws/Step.lean ====
section
/-! SUPPORT. What a step can do: the inversion of `step`, of a pass and of its phases (44_loop.md R240 to R247). -/

namespace Sys2Proof.Machine

variable (s : State)

/-- The present phase writes the dirty flag, the window and the trace and nothing else (R245). -/
@[simp] theorem presentPhase_fields :
    (presentPhase s).acc = s.acc ∧
    (presentPhase s).nbits = s.nbits ∧
    (presentPhase s).lastPulseTs = s.lastPulseTs ∧
    (presentPhase s).suppress = s.suppress ∧
    (presentPhase s).slotValid = s.slotValid ∧
    (presentPhase s).slotDur = s.slotDur ∧
    (presentPhase s).state = s.state ∧
    (presentPhase s).lastCommand = s.lastCommand ∧
    (presentPhase s).profValid = s.profValid ∧
    (presentPhase s).profFam = s.profFam ∧
    (presentPhase s).profIdx = s.profIdx ∧
    (presentPhase s).colorMode = s.colorMode ∧
    (presentPhase s).primaryColor = s.primaryColor ∧
    (presentPhase s).clashColor = s.clashColor ∧
    (presentPhase s).wheelIndex = s.wheelIndex ∧
    (presentPhase s).brightness = s.brightness ∧
    (presentPhase s).timerArmed = s.timerArmed ∧
    (presentPhase s).timerStart = s.timerStart ∧
    (presentPhase s).timerLen = s.timerLen ∧
    (presentPhase s).extTsValid = s.extTsValid ∧
    (presentPhase s).extTs = s.extTs ∧
    (presentPhase s).extPhase = s.extPhase ∧
    (presentPhase s).animCount = s.animCount ∧
    (presentPhase s).ledPower = s.ledPower ∧
    (presentPhase s).fb = s.fb ∧
    (presentPhase s).sinkBrightness = s.sinkBrightness ∧
    (presentPhase s).cfg = s.cfg ∧
    (presentPhase s).now = s.now ∧
    (presentPhase s).wake = s.wake ∧
    (presentPhase s).awakeAt = s.awakeAt ∧
    (presentPhase s).wakeOwed = s.wakeOwed ∧
    (presentPhase s).stim = s.stim ∧
    (presentPhase s).draws = s.draws := by
  unfold presentPhase present
  split
  · simp
  · split <;> simp

/-- After the present phase only suppression holds a dirty strip back (R245). -/
theorem presentPhase_held : (presentPhase s).dirty = true → (presentPhase s).suppress = true := by
  unfold presentPhase presentDue
  cases hd : s.dirty <;> cases hs : s.suppress <;> simp [hd, hs]

/-- Under suppression nothing that comes overlaps a present (70_reset_and_hazards.md R293). -/
theorem presentPhase_cover : (presentPhase s).suppress = true → (presentPhase s).window = .shut := by
  unfold presentPhase presentDue
  cases hs : s.suppress <;> cases hd : s.dirty <;> simp [hs, present]

/-- A present phase only appends to the trace, and no Sleep record (60_exceptions.md R262). -/
theorem presentPhase_trace : ∃ a : List Record, (presentPhase s).trace = s.trace ++ a ∧ .sleep ∉ a := by
  unfold presentPhase present
  split
  · exact ⟨[.present s.fb s.sinkBrightness], by simp⟩
  · split <;> exact ⟨[], by simp⟩

/-- Phase 0 enters Off from Uninitialized and does nothing else (R242). -/
theorem resetExit_eq : resetExit s = if s.state = .uninitialized then enter .off s else s := by
  unfold resetExit
  cases s.state <;> simp

/-- The next stimulus is taken off the queue, or drawn; the rest of the state is untouched. -/
theorem nextStimulus_frame : ∃ q n, (nextStimulus s).2 = { s with stim := q, draws := n } := by
  unfold nextStimulus
  cases s.stim with
  | nil => exact ⟨[], s.draws + 1, rfl⟩
  | cons x rest => exact ⟨rest, s.draws, rfl⟩

/-- A step that answers a next state met a good configuration, no fault and no broken duty, and ran the next
stimulus. -/
theorem step_next {s t : State} (h : step s = .next t) :
    s.cfg.wf = true ∧ foundFault s = none ∧ brokenDuty (nextStimulus s).1 (nextStimulus s).2 = none ∧
      runStimulus (nextStimulus s).1 (nextStimulus s).2 = .next t := by
  unfold step at h
  split at h
  · rename_i hw
    split at h
    · cases h
    · rename_i hf
      simp only at h
      split at h
      · cases h
      · rename_i hb
        exact ⟨hw, hf, hb, h⟩
  · cases h

/-- A step of a good configuration without a fault: the broken duty's refusal, or the event. -/
theorem step_eq {s : State} (hw : s.cfg.wf = true) (hf : foundFault s = none) :
    step s = match brokenDuty (nextStimulus s).1 (nextStimulus s).2 with
      | some b => .refused b
      | none => runStimulus (nextStimulus s).1 (nextStimulus s).2 := by
  unfold step
  rw [if_pos hw]
  split
  · rename_i f h
    rw [hf] at h
    cases h
  · rfl

/-- A state in which no fault is found: legal codes, and a profile outside the pre-ignition states (92 D45). -/
theorem foundFault_none_iff : foundFault s = none ↔
    s.state.legal = true ∧ s.colorMode.legal = true ∧ (preIgnition s = false → s.profValid = true) := by
  unfold foundFault
  cases s.state.legal <;> cases s.colorMode.legal <;> cases s.profValid <;> cases preIgnition s <;> simp

/-- What a pass does between the fetch phases and the finish: no command, or one. -/
def Dispatched (r : State × Option Byte) (u : State) : Prop :=
  (r.2 = none ∧ u = r.1) ∨
    ∃ c, r.2 = some c ∧ exec (decodeByte c) r.1 = .next u ∧ CommandStep r.1 (decodeByte c) u

/-- Every pass completes: the fetch phases, at most one command, the finish (R241). -/
theorem runPass_step (now wake : Time) :
    ∃ u, Dispatched (fetchPhases now wake s) u ∧ runPass now wake s = .next (finishPhases u) := by
  unfold runPass Dispatched
  simp only
  cases h : (fetchPhases now wake s).2 with
  | none => exact ⟨_, .inl ⟨rfl, rfl⟩, rfl⟩
  | some c =>
    obtain ⟨u, hu, hc⟩ := exec_step (fetchPhases now wake s).1 (decodeByte c)
    exact ⟨u, .inr ⟨c, rfl, hu, hc⟩, by simp only [dispatchPublished, hu]⟩

/-- A pass that answers a state is its phases in order. -/
theorem runPass_next {s t : State} {now wake : Time} (h : runPass now wake s = .next t) :
    ∃ u, Dispatched (fetchPhases now wake s) u ∧ t = finishPhases u := by
  obtain ⟨u, hd, hr⟩ := runPass_step s now wake
  rw [h] at hr
  cases hr
  exact ⟨u, hd, rfl⟩

/-- A pass breaks no duty exactly when its time is kept and, where it calls `RequestSleep`, so is its wake time
(R249). -/
theorem brokenDuty_pass_none_iff (now wake : Time) : brokenDuty (.pass now wake) s = none ↔
    timeDutyKept now s = true ∧ (callsSleep now wake s = true → wakeDutyKept now wake = true) := by
  simp only [brokenDuty]
  cases timeDutyKept now s <;> cases callsSleep now wake s <;> cases wakeDutyKept now wake <;> simp

/-- An overlapped pulse breaks no duty exactly when it can have overlapped a present (20_memory.md R83, R293). -/
theorem brokenDuty_overlapped_none_iff : brokenDuty .overlapped s = none ↔ overlapAdmitted s = true := by
  simp [brokenDuty]

/-- And it is refused under one name. -/
theorem brokenDuty_overlapped_some_iff :
    brokenDuty .overlapped s = some .overlapWithoutPresent ↔ overlapAdmitted s = false := by
  simp [brokenDuty]

/-- An overlapped pulse is admitted with the window open and no bit or preamble in the slot (R83, R293). -/
theorem overlapAdmitted_iff : overlapAdmitted s = true ↔ s.window ≠ .shut ∧
    (s.slotValid = true → classify s.cfg s.slotDur = .resync) := by
  cases hv : s.slotValid <;> simp [overlapAdmitted, slotSuppresses, hv]

/-- Every delivery is admitted. -/
@[simp] theorem brokenDuty_deliver (d : Time) : brokenDuty (.deliver d) s = none := rfl

/-- Whether a pass sleeps is what the state phase 2 leaves says (43_tick.md R207). -/
theorem callsSleep_eq {now wake : Time} {u : State}
    (h : dispatchPublished (fetchPhases now wake s).2 (fetchPhases now wake s).1 = .next u) :
    callsSleep now wake s = sleepDue u := by
  simp only [callsSleep, h]

/-- What the fetch phases leave alone of the latched state after phase 0 (40_decoder.md R110). -/
theorem fetchPhases_frame (now wake : Time) :
    (fetchPhases now wake s).1.slotDur = (resetExit (latchInputs now wake s)).slotDur ∧
    (fetchPhases now wake s).1.state = (resetExit (latchInputs now wake s)).state ∧
    (fetchPhases now wake s).1.lastCommand = (resetExit (latchInputs now wake s)).lastCommand ∧
    (fetchPhases now wake s).1.profValid = (resetExit (latchInputs now wake s)).profValid ∧
    (fetchPhases now wake s).1.profFam = (resetExit (latchInputs now wake s)).profFam ∧
    (fetchPhases now wake s).1.profIdx = (resetExit (latchInputs now wake s)).profIdx ∧
    (fetchPhases now wake s).1.colorMode = (resetExit (latchInputs now wake s)).colorMode ∧
    (fetchPhases now wake s).1.primaryColor = (resetExit (latchInputs now wake s)).primaryColor ∧
    (fetchPhases now wake s).1.clashColor = (resetExit (latchInputs now wake s)).clashColor ∧
    (fetchPhases now wake s).1.wheelIndex = (resetExit (latchInputs now wake s)).wheelIndex ∧
    (fetchPhases now wake s).1.brightness = (resetExit (latchInputs now wake s)).brightness ∧
    (fetchPhases now wake s).1.timerArmed = (resetExit (latchInputs now wake s)).timerArmed ∧
    (fetchPhases now wake s).1.timerStart = (resetExit (latchInputs now wake s)).timerStart ∧
    (fetchPhases now wake s).1.timerLen = (resetExit (latchInputs now wake s)).timerLen ∧
    (fetchPhases now wake s).1.extTsValid = (resetExit (latchInputs now wake s)).extTsValid ∧
    (fetchPhases now wake s).1.extTs = (resetExit (latchInputs now wake s)).extTs ∧
    (fetchPhases now wake s).1.extPhase = (resetExit (latchInputs now wake s)).extPhase ∧
    (fetchPhases now wake s).1.animCount = (resetExit (latchInputs now wake s)).animCount ∧
    (fetchPhases now wake s).1.dirty = (resetExit (latchInputs now wake s)).dirty ∧
    (fetchPhases now wake s).1.ledPower = (resetExit (latchInputs now wake s)).ledPower ∧
    (fetchPhases now wake s).1.fb = (resetExit (latchInputs now wake s)).fb ∧
    (fetchPhases now wake s).1.sinkBrightness = (resetExit (latchInputs now wake s)).sinkBrightness ∧
    (fetchPhases now wake s).1.cfg = (resetExit (latchInputs now wake s)).cfg ∧
    (fetchPhases now wake s).1.now = (resetExit (latchInputs now wake s)).now ∧
    (fetchPhases now wake s).1.wake = (resetExit (latchInputs now wake s)).wake ∧
    (fetchPhases now wake s).1.awakeAt = (resetExit (latchInputs now wake s)).awakeAt ∧
    (fetchPhases now wake s).1.wakeOwed = (resetExit (latchInputs now wake s)).wakeOwed ∧
    (fetchPhases now wake s).1.window = (resetExit (latchInputs now wake s)).window ∧
    (fetchPhases now wake s).1.stim = (resetExit (latchInputs now wake s)).stim ∧
    (fetchPhases now wake s).1.draws = (resetExit (latchInputs now wake s)).draws := by
  simp [fetchPhases]

end Sys2Proof.Machine
end

