-- ==== Sys2Proof/Tests/Slice0.lean ====
section
/-! SUPPORT. Tests and witnesses. Every expected result is the spec's: a vector V<n> of 95_test_vectors.md, an example of
a rule, or the row of an encoding written out bit by bit. A `witness_` theorem shows that the hypotheses of an
obligation can be met, at the boundary values of its clauses. -/

namespace Sys2Proof.Tests

open Sys2Proof.Machine Sys2Proof.Claims

/-! ## Small states -/

def blue : Rgb := ⟨0#8, 0#8, 255#8⟩
def green : Rgb := ⟨0#8, 255#8, 0#8⟩
def red : Rgb := ⟨255#8, 0#8, 0#8⟩

/-- After reset with TC, the sink's draws fixed. -/
def fresh : State := State.resetWith Config.test (List.replicate 4 Rgb.black) 0#8 0#32

/-- Off after the first pass, at time 1000 (the start of V25). -/
def offState : State := { fresh with
  state := .off, timerArmed := true, timerLen := 100000#32, now := 1000#32, awakeAt := 1000#32,
  window := .past, sinkBrightness := 255#8 }

/-- The W7 state, at time 1000: the start of V24a to V24p. -/
def idleState : State := { fresh with
  state := .idle, profValid := true, lastCommand := 0x20#8, primaryColor := blue, clashColor := Rgb.white,
  fb := List.replicate 4 blue, sinkBrightness := 255#8, ledPower := true, animCount := 4, timerStart := 107#32,
  timerLen := 100#32, now := 1000#32, awakeAt := 1000#32, window := .past }

/-- W7 at time 107, half way: two of four pixels lit at time 157 (P1). -/
def ignitingState : State := { idleState with
  state := .igniting, fb := [blue, blue, Rgb.black, Rgb.black], animCount := 2, timerArmed := true, now := 157#32,
  awakeAt := 157#32 }

/-- Extinguishing in its delay, since 5000 for 200 (V49). -/
def delayState (now : Time) : State := { idleState with
  state := .extinguishing, extTsValid := true, extTs := 5000#32, timerArmed := true, timerStart := 5000#32,
  timerLen := 200#32, animCount := 0, now := now, awakeAt := now }

/-- P1 at time 382: one pixel dark, the animation since 357 for 100. -/
def darkState (now : Time) : State := { idleState with
  state := .extinguishing, extPhase := .anim, extTsValid := true, extTs := 307#32, timerArmed := true,
  timerStart := 357#32, timerLen := 100#32, animCount := 1, fb := [blue, blue, blue, Rgb.black], now := now,
  awakeAt := now }

/-- A clash since 100 for 40 (the example of R209). -/
def clashState (m : ColorMode) (now : Time) : State := { idleState with
  state := .clash, colorMode := m, wheelIndex := 16#8, timerArmed := true, timerStart := 100#32, timerLen := 40#32,
  now := now, awakeAt := now }

/-- A flicker since 0 for 40 at brightness 67 (the example of R212). -/
def flickerState (b : BladeState) (now : Time) : State := { idleState with
  state := b, brightness := 67#8, timerArmed := true, timerStart := 0#32, timerLen := 40#32, now := now,
  awakeAt := now }

/-- A pulse waits in the slot. -/
def pulse (d : Time) (s : State) : State := { s with slotValid := true, slotDur := d }

/-- The outcome is a next state with this property. -/
def answers (o : Host.Outcome State Fault Refusal) (p : State → Prop) [DecidablePred p] : Bool :=
  match o with
  | .next t => decide (p t)
  | _ => false

/-! ## Decoding: words written out from the encodings -/

theorem test_decode_nop : decode [0b00000101#8] = .ok (.nop0 5#4, []) ∧ decode [0b00011111#8] = .ok (.nop1 15#4, []) := by
  decide

theorem test_decode_ignite :
    decode [0b00100000#8] = .ok (.igniteA 0#4, []) ∧ decode [0b00110101#8] = .ok (.igniteB 5#4, []) := by decide

theorem test_decode_extinguish :
    decode [0b01000001#8] = .ok (.extinguish4 1#4, []) ∧ decode [0b01011010#8] = .ok (.extinguish5 10#4, []) := by decide

theorem test_decode_flicker :
    decode [0b01101000#8] = .ok (.flickerLo 8#4, []) ∧ decode [0b01110010#8] = .ok (.flickerHi 2#4, []) := by decide

theorem test_decode_off :
    decode [0b10001111#8] = .ok (.off8 15#4, []) ∧ decode [0b10011100#8] = .ok (.off9 12#4, []) ∧
      decode [0b11100001#8] = .ok (.offE 1#4, []) ∧ decode [0b11111111#8] = .ok (.offF 15#4, []) := by decide

theorem test_decode_setcolor :
    decode [0b10100011#8] = .ok (.setcolorA 3#4, []) ∧ decode [0b10110100#8] = .ok (.setcolorB 4#4, []) := by decide

theorem test_decode_clash :
    decode [0b11000000#8] = .ok (.clashC 0#4, []) ∧ decode [0b11010111#8] = .ok (.clashD 7#4, []) := by decide

theorem test_decode_table_word_refuses_two_bytes :
    decodeTableWord 16 0x120 = none ∧ decodeTableWord 8 0x120 = some (.igniteA 0#4) := by decide

/-! ## Well-formedness: each check refuses an ill-formed configuration -/

theorem test_wf_test_config : Config.test.wf = true := by decide

theorem test_wf_thresholds :
    ({ Config.test with split := 0#32 } : Config).wf = false ∧
      ({ Config.test with split := 4000#32 } : Config).wf = false := by decide

theorem test_wf_preamble_band :
    ({ Config.test with preambleLo := 3999#32 } : Config).wf = false ∧
      ({ Config.test with preambleHi := 13999#32 } : Config).wf = false := by decide

theorem test_wf_strip : ({ Config.test with nPixels := 0 } : Config).wf = false := by decide

theorem test_wf_wheel : ({ Config.test with wheelPeriod := 0#32 } : Config).wf = false := by decide

theorem test_wf_colors : ({ Config.test with colorTable := [blue, green] } : Config).wf = false := by decide

theorem test_wf_instr : (Instr.offF 15#4).WellFormed := by unfold Instr.WellFormed; decide

/-! ## The decoder -/

/-- V1 to V9a. -/
theorem test_pulse_classes :
    [0, 1000, 1599, 1600, 3999, 4000, 13999, 14000, 16000, 18000, 18001, 4294967295].map
        (fun d => classify Config.test (BitVec.ofNat 32 d)) =
      [.bit0, .bit0, .bit0, .bit1, .bit1, .resync, .resync, .preamble, .preamble, .preamble, .resync, .resync] := by
  decide

/-- V11, V12. -/
theorem test_bit_shifts_in :
    (let r := decodePass (pulse 2000#32 { fresh with acc := 0x01#8, nbits := 1#3 })
     r.1.acc = 0x03#8 ∧ r.1.nbits = 2#3 ∧ r.1.suppress = true ∧ r.2 = none) ∧
    (let r := decodePass (pulse 1000#32 { fresh with acc := 0xFF#8, nbits := 3#3 })
     r.1.acc = 0xFE#8 ∧ r.1.nbits = 4#3) := by decide

/-- The example of R116. -/
theorem test_eighth_bit_publishes :
    let r := decodePass (pulse 1000#32 { fresh with acc := 0x10#8, nbits := 7#3, suppress := true })
    r.2 = some 0x20#8 ∧ r.1.nbits = 0#3 ∧ r.1.suppress = false ∧ r.1.acc = 0x20#8 := by decide

/-- V13, V14, V15. -/
theorem test_resync_and_preamble :
    (let r := (decodePass (pulse 5000#32 { fresh with acc := 0x06#8, nbits := 3#3, suppress := true })).1
     r.acc = 0#8 ∧ r.nbits = 0#3 ∧ r.suppress = false ∧ r.trace = [.resync 5000#32]) ∧
    (let r := (decodePass (pulse 16000#32 { fresh with acc := 0x06#8, nbits := 5#3, suppress := true })).1
     r.acc = 0#8 ∧ r.nbits = 0#3 ∧ r.suppress = true ∧ r.trace = [.preamble 16000#32]) ∧
    (decodePass (pulse 5000#32 { fresh with suppress := true })).1.suppress = false := by decide

/-- V16, V18, V20. -/
theorem test_timeout :
    (let s := { fresh with nbits := 3#3, suppress := true, lastPulseTs := 100#32 }
     decodePass { s with now := 16100#32 } = ({ s with now := 16100#32 }, none) ∧
     (decodePass { s with now := 16101#32 }).1.suppress = false ∧
     (decodePass { s with now := 16101#32 }).1.trace = [.timeout] ∧
     (decodePass (pulse 1000#32 { s with now := 20000#32 })).1.nbits = 4#3 ∧
     (decodePass (pulse 1000#32 { s with now := 20000#32 })).1.lastPulseTs = 20000#32) ∧
    (let s := { fresh with nbits := 1#3, suppress := true, lastPulseTs := 4294967000#32 }
     (decodePass { s with now := 15000#32 }).1.suppress = true ∧
     (decodePass { s with now := 15705#32 }).1.suppress = false) := by decide

/-- W10: eight short pulses publish 0x00, eight long ones 0xFF. -/
theorem test_eight_pulses :
    published (List.replicate 8 1000#32) fresh = [0x00#8] ∧ published (List.replicate 8 2000#32) fresh = [0xFF#8] := by
  decide

/-- The pulse train of 0x35 (95, section 0). -/
theorem test_pulse_train :
    stimSend 0x35#8 100#32 =
      [.deliver 1000#32, .pass 100#32 100#32, .deliver 1000#32, .pass 101#32 101#32, .deliver 2000#32,
       .pass 102#32 102#32, .deliver 2000#32, .pass 103#32 103#32, .deliver 1000#32, .pass 104#32 104#32,
       .deliver 2000#32, .pass 105#32 105#32, .deliver 1000#32, .pass 106#32 106#32, .deliver 2000#32,
       .pass 107#32 107#32] := by decide

/-! ## Arithmetic -/

/-- V36. -/
theorem test_flicker_levels :
    (List.range 16).map (fun p => (flickerLevelLow (BitVec.ofNat 4 p)).toNat) =
        [0, 8, 16, 25, 33, 42, 50, 59, 67, 76, 84, 93, 101, 110, 118, 127] ∧
      (List.range 16).map (fun p => (flickerLevelHigh (BitVec.ofNat 4 p)).toNat) =
        [128, 136, 144, 153, 161, 170, 178, 187, 195, 204, 212, 221, 229, 238, 246, 255] := by decide

/-- V40, V41. -/
theorem test_target :
    [0, 12, 13, 37, 38, 62, 63, 87, 88, 100, 150].map (fun e => target e 100 4) = [0, 0, 1, 1, 2, 2, 3, 3, 4, 4, 4] ∧
      target 1 2 1 = 1 ∧ target 50 1000 10 = 1 ∧ target 49 1000 10 = 0 ∧ target 500 1000 10 = 5 ∧
      target 0 0 4 = 4 := by decide

/-- V42. -/
theorem test_mirrored_pixels :
    (let c := { Config.test with nPixels := 5, mirrored := true }
     nLog c = 3 ∧ phys c 0 = [0, 4] ∧ phys c 1 = [1, 3] ∧ phys c 2 = [2]) ∧
    (let c := { Config.test with mirrored := true }
     nLog c = 2 ∧ phys c 0 = [0, 3] ∧ phys c 1 = [1, 2]) := by decide

/-- V43. -/
theorem test_dim :
    [255, 204, 128, 127, 101, 5, 4, 2, 1, 0].map (fun b => (dim (BitVec.ofNat 8 b)).toNat) =
      [204, 163, 102, 101, 80, 4, 3, 1, 0, 0] := by decide

/-- V44. -/
theorem test_wheel :
    [1, 16, 32, 84, 85, 86].map (fun p => wheel (BitVec.ofNat 8 p)) =
        [⟨252#8, 0#8, 3#8⟩, ⟨207#8, 0#8, 48#8⟩, ⟨159#8, 0#8, 96#8⟩, ⟨3#8, 0#8, 252#8⟩, blue, ⟨0#8, 3#8, 252#8⟩] ∧
      [169, 170, 171, 212, 240, 255].map (fun p => wheel (BitVec.ofNat 8 p)) =
        [⟨0#8, 252#8, 3#8⟩, green, ⟨3#8, 252#8, 0#8⟩, ⟨126#8, 129#8, 0#8⟩, ⟨210#8, 45#8, 0#8⟩, red] := by decide

/-- V47: the timer (1, 4294967286, 20). -/
theorem test_elapsed_wraps :
    let s := { fresh with timerArmed := true, timerStart := 4294967286#32, timerLen := 20#32 }
    elapsed { s with now := 9#32 } = false ∧ elapsed { s with now := 10#32 } = true := by decide

/-! ## The commands: V24a to V24p, each by one step that publishes and runs its byte at time 1000 -/

theorem test_nop0 : answers (step (idleState.withFetchWord 8 0x00)) (fun t => t.state = .idle ∧
    t.lastCommand = 0x00#8 ∧ t.trace = [.command 0x00#8, .unrecognized 0x00#8]) = true := by decide

theorem test_nop1 : answers (step (idleState.withFetchWord 8 0x1F)) (fun t => t.state = .idle ∧
    t.lastCommand = 0x1F#8 ∧ t.trace = [.command 0x1F#8, .unrecognized 0x1F#8]) = true := by decide

theorem test_ignite_a : answers (step (idleState.withFetchWord 8 0x2C)) (fun t => t.state = .igniting ∧
    t.profFam = .a ∧ t.profIdx = 12#4 ∧ t.fb = List.replicate 4 Rgb.black ∧ t.timerArmed = true ∧
    t.timerStart = 1000#32 ∧ t.timerLen = 100#32 ∧ t.colorMode = .stock) = true := by decide

theorem test_ignite_b : answers (step (idleState.withFetchWord 8 0x35)) (fun t => t.state = .idle ∧
    t.profFam = .b ∧ t.profIdx = 5#4 ∧ t.fb = List.replicate 4 red ∧ t.timerArmed = false) = true := by decide

theorem test_extinguish4 : answers (step (idleState.withFetchWord 8 0x40)) (fun t => t.state = .extinguishing ∧
    t.extTs = 1000#32 ∧ t.extTsValid = true ∧ t.extPhase = .delay ∧ t.timerStart = 1000#32 ∧ t.timerLen = 50#32 ∧
    t.fb = List.replicate 4 blue) = true := by decide

theorem test_extinguish5 : answers (step (idleState.withFetchWord 8 0x5A)) (fun t => t.state = .extinguishing ∧
    t.extTs = 1000#32 ∧ t.extTsValid = true ∧ t.timerLen = 50#32) = true := by decide

theorem test_flicker_lo : answers (step (idleState.withFetchWord 8 0x68)) (fun t => t.state = .flickerLow ∧
    t.brightness = 67#8 ∧ t.sinkBrightness = 67#8 ∧ t.timerStart = 1000#32 ∧ t.timerLen = 40#32 ∧
    t.fb = List.replicate 4 blue) = true := by decide

theorem test_flicker_hi : answers (step (idleState.withFetchWord 8 0x7F)) (fun t => t.state = .flickerHigh ∧
    t.brightness = 255#8 ∧ t.timerLen = 40#32) = true := by decide

theorem test_off8 : answers (step (idleState.withFetchWord 8 0x80)) (fun t => t.state = .off ∧
    t.fb = List.replicate 4 Rgb.black ∧ t.ledPower = false ∧ t.timerStart = 1000#32 ∧ t.timerLen = 100000#32 ∧
    t.profValid = true ∧
    t.trace = [.command 0x80#8, .power false, .present (List.replicate 4 Rgb.black) 255#8]) = true := by decide

theorem test_off9 : answers (step (idleState.withFetchWord 8 0x9C)) (fun t => t.state = .off ∧
    t.fb = List.replicate 4 Rgb.black ∧ t.ledPower = false ∧ t.lastCommand = 0x9C#8) = true := by decide

theorem test_setcolor_a : answers (step (idleState.withFetchWord 8 0xA3)) (fun t => t.state = .idle ∧
    t.profFam = .a ∧ t.profIdx = 3#4 ∧ t.primaryColor = green ∧ t.fb = List.replicate 4 green ∧
    t.brightness = 255#8) = true := by decide

theorem test_setcolor_b : answers (step (idleState.withFetchWord 8 0xB0)) (fun t => t.state = .idle ∧
    t.profFam = .b ∧ t.profIdx = 0#4 ∧ t.primaryColor = red ∧ t.fb = List.replicate 4 red) = true := by decide

theorem test_clash_c : answers (step (idleState.withFetchWord 8 0xC0)) (fun t => t.state = .clash ∧
    t.fb = List.replicate 4 Rgb.white ∧ t.timerStart = 1000#32 ∧ t.timerLen = 40#32) = true := by decide

theorem test_clash_d : answers (step (idleState.withFetchWord 8 0xD7)) (fun t => t.state = .clash ∧
    t.fb = List.replicate 4 Rgb.white ∧ t.lastCommand = 0xD7#8) = true := by decide

theorem test_off_e : answers (step (idleState.withFetchWord 8 0xE0)) (fun t => t.state = .off ∧
    t.fb = List.replicate 4 Rgb.black ∧ t.ledPower = false) = true := by decide

theorem test_off_f : answers (step (idleState.withFetchWord 8 0xFF)) (fun t => t.state = .off ∧
    t.fb = List.replicate 4 Rgb.black ∧ t.ledPower = false) = true := by decide

/-- V25: without a profile the command is dropped and Off stays. -/
theorem test_dropped_without_profile :
    [0x40, 0x5F, 0x61, 0x7F, 0xC0, 0xDF].map (fun w => answers (step (offState.withFetchWord 8 w)) fun t =>
      t.state = .off ∧ t.lastCommand = BitVec.ofNat 8 w ∧
      t.trace = [.command (BitVec.ofNat 8 w), .dropped (BitVec.ofNat 8 w) .noProfile]) =
    List.replicate 6 true := by decide

/-- V26: a set-color from Off is taken; the LED power stays 0. -/
theorem test_setcolor_from_off : answers (step (offState.withFetchWord 8 0xA0)) (fun t => t.state = .idle ∧
    t.profValid = true ∧ t.fb = List.replicate 4 blue ∧ t.ledPower = false) = true := by decide

/-- V27: in an animation a set-color is dropped. -/
theorem test_setcolor_dropped : answers (exec (.setcolorB 3#4) ignitingState) (fun t =>
    t = { ignitingState with lastCommand := 0xB3#8, trace := [.dropped 0xB3#8 (.guard .igniting)] }) = true := by decide

/-- V30, V31: the boundary of a quick re-ignite. -/
theorem test_quick_reignite :
    let s := { idleState with extTsValid := true, extTs := 1000#32 }
    [1000, 1499, 1500, 99999].map (fun n => (enter .igniting { s with now := BitVec.ofNat 32 n }).colorMode) =
        [.wheelCycle, .wheelCycle, .stock, .stock] ∧
      (enter .igniting { s with extTsValid := false }).colorMode = .stock := by decide

/-- V33. -/
theorem test_derive :
    [ColorMode.stock, .wheelCycle, .wheelHold, .wheelCycleWhite, .wheelHoldWhite].map (fun m =>
      let t := derive { idleState with colorMode := m, wheelIndex := 16#8 }
      (t.primaryColor, t.clashColor)) =
    [(blue, Rgb.white), (⟨207#8, 0#8, 48#8⟩, Rgb.white), (⟨207#8, 0#8, 48#8⟩, Rgb.white), (Rgb.white, Rgb.yellow),
      (Rgb.white, Rgb.yellow)] := by decide

/-- V35: a refresh in a wheel mode does not derive the colours again. -/
theorem test_refresh_keeps_wheel_colour :
    answers (step ({ idleState with colorMode := .wheelHold, primaryColor := ⟨207#8, 0#8, 48#8⟩ }.withFetchWord 8 0xA3))
      (fun t => t.primaryColor = ⟨207#8, 0#8, 48#8⟩ ∧ t.fb = List.replicate 4 ⟨207#8, 0#8, 48#8⟩ ∧
        t.profIdx = 3#4) = true := by decide

/-! ## The ticks -/

/-- P1 at 157 and 207. -/
theorem test_igniting_tick :
    (tick { ignitingState with fb := [blue, Rgb.black, Rgb.black, Rgb.black], animCount := 1 }).fb =
        [blue, blue, Rgb.black, Rgb.black] ∧
      (tick { ignitingState with now := 207#32 }).state = .idle ∧
      (tick { ignitingState with now := 207#32 }).fb = List.replicate 4 blue ∧
      (tick { ignitingState with now := 207#32 }).timerArmed = false := by decide

/-- V49. -/
theorem test_delay_tick :
    tick (delayState 5199#32) = delayState 5199#32 ∧
      (let t := tick (delayState 5200#32)
       t.extPhase = .anim ∧ t.timerStart = 5200#32 ∧ t.timerLen = 100#32 ∧ t.fb = List.replicate 4 blue) := by decide

/-- P1 at 457. -/
theorem test_darkening_tick :
    (tick { darkState 382#32 with fb := List.replicate 4 blue, animCount := 0 }).fb = [blue, blue, blue, Rgb.black] ∧
      (let t := tick (darkState 457#32)
       t.state = .off ∧ t.fb = List.replicate 4 Rgb.black ∧ t.ledPower = false ∧ t.timerLen = 100000#32 ∧
         t.timerStart = 457#32) := by decide

/-- P5: the mirrored strip darkens from its centre. -/
theorem test_mirrored_darkening :
    let c := { Config.test with nPixels := 5, mirrored := true }
    (tick { darkState 282#32 with
      cfg := c, fb := List.replicate 5 blue, animCount := 0, timerStart := 257#32 }).fb =
    [blue, blue, Rgb.black, blue, blue] := by decide

/-- V48. -/
theorem test_off_tick :
    tick { offState with now := 99999#32 } = { offState with now := 99999#32 } ∧
      (let t := tick { offState with now := 100000#32, wake := 150000#32 }
       t.timerStart = 150000#32 ∧ t.timerLen = 100000#32 ∧ t.timerArmed = true ∧ t.trace = [.sleep]) := by decide

/-- R209 and V46. -/
theorem test_clash_tick :
    tick (clashState .stock 139#32) = clashState .stock 139#32 ∧
      (let t := tick (clashState .stock 140#32)
       t.state = .idle ∧ t.fb = List.replicate 4 blue ∧ t.colorMode = .stock ∧ t.timerArmed = false) ∧
      (let t := tick (clashState .wheelCycle 140#32)
       t.colorMode = .wheelCycleWhite ∧ t.primaryColor = Rgb.white ∧ t.clashColor = Rgb.yellow ∧
         t.timerLen = 100#32) ∧
      (let t := tick (clashState .wheelCycleWhite 140#32)
       t.colorMode = .wheelCycle ∧ t.primaryColor = ⟨207#8, 0#8, 48#8⟩ ∧ t.timerLen = 50#32) := by decide

/-- R212, R213. -/
theorem test_flicker_ticks :
    (tick (flickerState .flickerLow 40#32)).brightness = 53#8 ∧
      (tick (flickerState .flickerLow 40#32)).state = .idle ∧
      tick (flickerState .flickerLow 39#32) = flickerState .flickerLow 39#32 ∧
      (tick { flickerState .flickerHigh 40#32 with brightness := 255#8 }).brightness = 204#8 := by decide

/-- P2 at 647: the wheel advances with the doubled period, in the white sub-variant too. -/
theorem test_idle_tick :
    let s := { idleState with
      colorMode := .wheelCycleWhite, wheelIndex := 16#8, timerArmed := true, timerStart := 547#32, timerLen := 100#32 }
    tick { s with now := 646#32 } = { s with now := 646#32 } ∧
      (let t := tick { s with now := 647#32 }
       t.wheelIndex = 32#8 ∧ t.primaryColor = ⟨159#8, 0#8, 96#8⟩ ∧ t.timerStart = 647#32 ∧ t.timerLen = 100#32 ∧
         t.colorMode = .wheelCycleWhite ∧ t.fb = List.replicate 4 ⟨159#8, 0#8, 96#8⟩) := by decide

/-- V21, V22. -/
theorem test_present_gating :
    presentPhase { idleState with dirty := true, suppress := true } =
        { idleState with dirty := true, suppress := true, window := .shut } ∧
      presentPhase idleState = idleState ∧
      (presentPhase { idleState with dirty := true }).trace = [.present (List.replicate 4 blue) 255#8] := by decide

/-! ## The machine -/

/-- The first step after reset, given a pass: Uninitialized leaves for Off (P1 at 0). -/
theorem test_first_pass : answers (step { fresh with stim := [.pass 0#32 0#32] }) (fun t => t.state = .off ∧
    t.fb = List.replicate 4 Rgb.black ∧ t.dirty = false ∧ t.timerLen = 100000#32 ∧
    t.trace = [.power false, .present (List.replicate 4 Rgb.black) 0#8]) = true := by decide

/-- A placed command runs as the first instruction after reset, whatever the sink's draws. -/
theorem test_first_instruction :
    answers (step (State.reset.withFetchWord 8 0x2C)) (fun t => t.state = .igniting ∧ t.profIdx = 12#4) = true := by
  decide

theorem test_core : core.step = step ∧ core.reset = State.reset := ⟨rfl, rfl⟩

/-! ## Witnesses -/

theorem witness_DecodeOfEncodeIsIdentity : (Instr.igniteA 0#4).WellFormed ∧ (Instr.offF 15#4).WellFormed := by
  unfold Instr.WellFormed; decide

theorem witness_PulseClassesPartition : ∃ cfg : Config, cfg.wf = true := ⟨Config.test, by decide⟩

theorem witness_TakeReadsAndClearsSlot :
    (∃ s : State, s.slotValid = true) ∧ (∃ s : State, s.slotValid = false) := ⟨⟨pulse 0#32 fresh, rfl⟩, ⟨fresh, rfl⟩⟩

theorem witness_DeliverStoresOrOverruns :
    (∃ s : State, s.slotValid = false) ∧ (∃ s : State, s.slotValid = true ∧ s.cfg.overrun = .overwrite) ∧
    (∃ s : State, s.slotValid = true ∧ s.cfg.overrun = .drop) ∧
    (∃ s : State, s.slotValid = true ∧ s.cfg.overrun = .either) :=
  ⟨⟨fresh, rfl⟩, ⟨pulse 0#32 { fresh with cfg := { Config.test with overrun := .overwrite } }, by decide⟩,
    ⟨pulse 0#32 { fresh with cfg := { Config.test with overrun := .drop } }, by decide⟩,
    ⟨pulse 0#32 fresh, by decide⟩⟩

theorem witness_PreambleEmptiesAndSuppresses : ∀ d, d = 14000#32 ∨ d = 16000#32 ∨ d = 18000#32 →
    (pulse d fresh).cfg.wf = true ∧ (pulse d fresh).slotValid = true ∧ Config.test.cutoff ≤ d ∧
      Config.test.preambleLo ≤ d ∧ d ≤ Config.test.preambleHi := by
  rintro d (rfl | rfl | rfl) <;> exact ⟨by decide, rfl, by decide, by decide, by decide⟩

theorem witness_ResyncDiscardsPartialByte : ∀ d, d = 4000#32 ∨ d = 13999#32 ∨ d = 18001#32 →
    (pulse d fresh).cfg.wf = true ∧ (pulse d fresh).slotValid = true ∧ Config.test.cutoff ≤ d ∧
      ¬(Config.test.preambleLo ≤ d ∧ d ≤ Config.test.preambleHi) := by
  rintro d (rfl | rfl | rfl) <;> exact ⟨by decide, rfl, by decide, by decide⟩

theorem witness_BitPulseShiftsInOrPublishes : ∀ d, d = 0#32 ∨ d = 1599#32 ∨ d = 1600#32 ∨ d = 3999#32 →
    (pulse d fresh).cfg.wf = true ∧ (pulse d fresh).slotValid = true ∧ d < Config.test.cutoff ∧
      (pulse d fresh).nbits ≠ 7#3 ∧ (pulse d { fresh with nbits := 6#3 }).nbits ≠ 7#3 ∧
      (pulse d { fresh with nbits := 7#3 }).nbits = 7#3 := by
  rintro d (rfl | rfl | rfl | rfl) <;> exact ⟨by decide, rfl, by decide, by decide, by decide, rfl⟩

theorem witness_TimeoutEmptiesDecoder :
    (let s := { fresh with suppress := true, now := 16001#32 }
     s.slotValid = false ∧ s.suppress = true ∧ s.cfg.decTimeout < s.now - s.lastPulseTs) ∧
    (let s := { fresh with suppress := true, now := 16000#32 }
     s.slotValid = false ∧ s.now - s.lastPulseTs ≤ s.cfg.decTimeout) ∧
    (fresh.slotValid = false ∧ fresh.suppress = false) := by decide

theorem witness_EveryEightBitPulsesPublishTheirByte :
    fresh.nbits = 0#3 ∧ ∀ d ∈ [1000#32, 2000#32, 0#32, 3999#32, 1599#32, 1600#32, 1000#32, 1000#32, 2000#32],
      d < Config.test.cutoff :=
  ⟨rfl, by simp [Config.test]⟩

/-- The commands that need a profile: with one, and without. -/
theorem witness_profile_guard : idleState.profValid = true ∧ offState.profValid = false := by decide

theorem witness_SetcolorTakenOnlyWhenSettled : idleState.state = .idle ∧ offState.state = .off ∧
    ignitingState.state ≠ .idle ∧ ignitingState.state ≠ .off := by decide

theorem witness_CommandMovesStateAlongItsRow :
    (∃ t, exec (.clashC 0#4) idleState = .next t) ∧ (∃ t, exec (.clashC 0#4) offState = .next t) :=
  ⟨⟨_, rfl⟩, ⟨_, rfl⟩⟩

theorem witness_EnterIdleArmsWheelTimer :
    (∃ s : State, s.timerArmed = false ∧ s.colorMode = .wheelCycle) ∧
    (∃ s : State, s.timerArmed = false ∧ s.colorMode = .wheelCycleWhite) ∧
    (∃ s : State, s.timerArmed = true) ∧
    (∃ s : State, s.colorMode ≠ .wheelCycle ∧ s.colorMode ≠ .wheelCycleWhite) :=
  ⟨⟨{ idleState with colorMode := .wheelCycle }, by decide⟩, ⟨{ idleState with colorMode := .wheelCycleWhite }, by decide⟩,
    ⟨offState, by decide⟩, ⟨idleState, by decide⟩⟩

theorem witness_DeriveColoursByMode : ∀ m : ColorMode, ∃ s : State, s.colorMode = m :=
  fun m => ⟨{ idleState with colorMode := m }, rfl⟩

theorem witness_TargetRoundsTheElapsedFraction :
    (0 : Nat) < 100 ∧ (100 : Nat) ≤ 100 ∧ (50 : Nat) ≤ 51 ∧ target 0 100 4 = 0 ∧ target 100 100 4 = 4 ∧
      target 87 100 4 ≠ 4 ∧ target 88 100 4 = 4 := by decide

theorem witness_IgnitingTickLightsToTarget :
    ignitingState.state = .igniting ∧ ignitingState.fb.length = ignitingState.cfg.nPixels ∧
      ignitingState.timerArmed = true ∧ ({ ignitingState with timerArmed := false } : State).timerArmed = false ∧
      target 100 100 4 = nLog ignitingState.cfg := by decide

theorem witness_DarkeningTickDarkensFromTip :
    let s := darkState 382#32
    s.state = .extinguishing ∧ s.extPhase = .anim ∧ s.fb.length = s.cfg.nPixels ∧ s.timerArmed = true ∧
      ({ s with timerArmed := false } : State).timerArmed = false := by decide

theorem witness_DelayTickStartsDarkening :
    (let s := delayState 5200#32
     s.state = .extinguishing ∧ s.extPhase = .delay ∧ s.timerArmed = true ∧ s.timerLen ≤ s.now - s.timerStart) ∧
    (let s := delayState 5199#32
     s.state = .extinguishing ∧ s.extPhase = .delay ∧ s.now - s.timerStart < s.timerLen) := by decide

theorem witness_OffTickSleepsAndRearms :
    (let s := { offState with now := 100000#32 }
     s.state = .off ∧ s.timerArmed = true ∧ s.timerLen ≤ s.now - s.timerStart) ∧
    (let s := { offState with now := 99999#32 }
     s.state = .off ∧ s.now - s.timerStart < s.timerLen) := by decide

theorem witness_IdleTickAdvancesWheel : ∀ m ∈ [ColorMode.wheelCycle, .wheelCycleWhite],
    (let s := { idleState with colorMode := m, timerArmed := true, timerLen := 50#32, timerStart := 950#32 }
     s.state = .idle ∧ s.timerArmed = true ∧ s.timerLen ≤ s.now - s.timerStart) ∧
    (idleState.colorMode ≠ .wheelCycle ∧ idleState.colorMode ≠ .wheelCycleWhite ∧ idleState.timerArmed = false) := by
  decide

theorem witness_ClashTickRevertsToPrimary :
    (let s := clashState .wheelCycle 140#32
     s.state = .clash ∧ s.timerArmed = true ∧ s.timerLen ≤ s.now - s.timerStart) ∧
    (let s := clashState .wheelCycle 139#32
     s.state = .clash ∧ s.now - s.timerStart < s.timerLen) := by decide

theorem witness_FlickerTickDimsAndEnds : ∀ b ∈ [BladeState.flickerLow, .flickerHigh],
    (let s := flickerState b 40#32
     (s.state = .flickerLow ∨ s.state = .flickerHigh) ∧ s.timerArmed = true ∧ s.timerLen ≤ s.now - s.timerStart) ∧
    (let s := flickerState b 39#32
     s.now - s.timerStart < s.timerLen) := by decide

/-- A state in which Off's timer elapses at 100000 and 100100 is the last wake time: a waking edge may be owed. -/
def sleepState (owed : Bool) : State := { offState with
  now := 100000#32, awakeAt := 100100#32, timerStart := 100100#32, wakeOwed := owed, window := .shut }

/-- Every form of the next stimulus: a delivery, an overlapped pulse, a pass with a command and one without. -/
theorem witness_StepRunsTheDecodedInstruction :
    (let s := { idleState with stim := [.deliver 1000#32] }
     s.cfg.wf = true ∧ foundFault s = none ∧ s.stim = [.deliver 1000#32]) ∧
    (let s := { idleState with stim := [.overlapped] }
     s.cfg.wf = true ∧ foundFault s = none ∧ s.stim = [.overlapped] ∧
       brokenDuty .overlapped { s with stim := [] } = none) ∧
    (∃ (s u t : State), s.cfg.wf = true ∧ foundFault s = none ∧ s.stim = [.pass 1000#32 1000#32] ∧
      brokenDuty (.pass 1000#32 1000#32) { s with stim := [] } = none ∧
      decodePass (resetExit { s with
        stim := [], now := 1000#32, wake := 1000#32, awakeAt := 1000#32, window := s.window.passStarted }) =
        (u, some 0xC0#8) ∧
      decode [0xC0#8] = .ok (.clashC 0#4, []) ∧ exec (.clashC 0#4) u = .next t) ∧
    (∃ (s u : State), s.cfg.wf = true ∧ foundFault s = none ∧ s.stim = [.pass 1000#32 1000#32] ∧
      brokenDuty (.pass 1000#32 1000#32) { s with stim := [] } = none ∧
      decodePass (resetExit { s with
        stim := [], now := 1000#32, wake := 1000#32, awakeAt := 1000#32, window := s.window.passStarted }) = (u, none)) :=
  ⟨by decide, by decide,
    ⟨idleState.withFetchWord 8 0xC0, _, _, by decide, by decide, rfl, by decide, rfl, by decide, rfl⟩,
    ⟨{ idleState with stim := [.pass 1000#32 1000#32] }, _, by decide, by decide, rfl, by decide, rfl⟩⟩

/-- A queued delivery fills the slot, and a queued overlapped pulse is used up (R71, R83). -/
theorem test_step_delivers :
    answers (step { idleState with stim := [.deliver 1000#32] }) (fun t => t.slotValid = true ∧ t.slotDur = 1000#32 ∧
      t.stim = []) = true ∧
    (∃ t, step { idleState with stim := [.overlapped] } = .next t) := ⟨by decide, ⟨_, rfl⟩⟩

theorem witness_PlacedCommandRunsNext :
    (idleState.cfg.wf = true ∧ foundFault idleState = none ∧ foundFault fresh = none) ∧
    fresh.state = .uninitialized ∧ (idleState.awakeAt - idleState.now).toNat < 2 ^ 31 ∧
    (let s := { idleState with awakeAt := 2147484647#32 }
     s.cfg.wf = true ∧ foundFault s = none ∧ (s.awakeAt - s.now).toNat = 2 ^ 31 - 1) := by decide

theorem witness_PresentOnlyWhenDirtyAndNotSuppressed :
    (∃ s : State, s.dirty = true ∧ s.suppress = false) ∧ (∃ s : State, s.dirty = false) ∧
    (∃ s : State, s.suppress = true) :=
  ⟨⟨{ fresh with dirty := true }, by decide⟩, ⟨fresh, rfl⟩, ⟨{ fresh with suppress := true }, rfl⟩⟩

/-- Without a sleep time of 0 no bound is asked for; with it, the wake time may lie up to 2^31 - 1 after `now`. -/
theorem witness_FirstPassEntersOff :
    (Config.test.wf = true ∧ Config.test.sleepIdleTime ≠ 0#32) ∧
    (let c := { Config.test with hasPowerGate := false, sleepIdleTime := 0#32 }
     c.wf = true ∧ c.sleepIdleTime = 0#32 ∧ (5#32 - 5#32 : Time).toNat < 2 ^ 31 ∧
       (2147483652#32 - 5#32 : Time).toNat = 2 ^ 31 - 1) := by decide

theorem witness_StepFaultsOnImpossibleStates :
    step { fresh with state := .reserved 0 } = .fault .reservedState ∧
    step { fresh with colorMode := .reserved 2 } = .fault .reservedColorMode ∧
    step { fresh with state := .idle } = .fault .profileMissing ∧
    (fresh.cfg.wf = true ∧ fresh.state.legal = true ∧ fresh.colorMode.legal = true ∧ fresh.state = .uninitialized) ∧
    (idleState.state.legal = true ∧ idleState.colorMode.legal = true ∧ idleState.profValid = true) :=
  ⟨rfl, rfl, rfl, by decide, by decide⟩

/-- The duty of a pass's time at its boundaries: one before the last pass, the last pass's time, 2^31 - 1 and 2^31
after it, and one before the last wake time (44_loop.md R249, U19). -/
theorem witness_time_duty :
    (step { idleState with stim := [.pass 999#32 999#32] } = .refused .timeDuty ∧
      (∃ t, step { idleState with stim := [.pass 1000#32 1000#32] } = .next t) ∧
      (∃ t, step { idleState with stim := [.pass 2147484647#32 0#32] } = .next t) ∧
      step { idleState with stim := [.pass 2147484648#32 0#32] } = .refused .timeDuty) ∧
    (step { sleepState false with stim := [.pass 100099#32 100099#32] } = .refused .timeDuty ∧
      (∃ t, step { sleepState false with stim := [.pass 100100#32 100100#32] } = .next t)) ∧
    (∃ t, step { fresh with stim := [.pass 4294967295#32 0#32] } = .next t) :=
  ⟨⟨rfl, ⟨_, rfl⟩, ⟨_, rfl⟩, rfl⟩, ⟨rfl, ⟨_, rfl⟩⟩, ⟨_, rfl⟩⟩

/-- A pass that sleeps, at the boundaries of its wake time; one that does not sleep asks nothing of its wake time
(R249). -/
theorem witness_wake_duty :
    step { offState with stim := [.pass 100000#32 99999#32] } = .refused .wakeDuty ∧
    (∃ t, step { offState with stim := [.pass 100000#32 100000#32] } = .next t) ∧
    (∃ t, step { offState with stim := [.pass 100000#32 2147583647#32] } = .next t) ∧
    step { offState with stim := [.pass 100000#32 2147583648#32] } = .refused .wakeDuty ∧
    (∃ t, step { sleepState true with stim := [.pass 200099#32 0#32] } = .next t) :=
  ⟨rfl, ⟨_, rfl⟩, ⟨_, rfl⟩, rfl, ⟨_, rfl⟩⟩

/-- An owed waking edge comes with the next delivery; until then the block may sleep again, as R207 says, and the pass
that takes its pulse may sleep as well (60_exceptions.md R264). -/
theorem test_waking_edge :
    answers (step { sleepState true with stim := [.deliver 5000#32] }) (fun t => t.wakeOwed = false ∧
      t.slotValid = true) = true ∧
    answers (step { sleepState true with stim := [.pass 200100#32 200200#32] }) (fun t =>
      t.wakeOwed = true ∧ t.timerStart = 200200#32 ∧ t.trace = [.sleep]) = true ∧
    answers (step { pulse 5000#32 (sleepState false) with stim := [.pass 200100#32 200100#32] }) (fun t =>
      t.wakeOwed = true ∧ t.trace = [.resync 5000#32, .sleep]) = true := by decide

/-- Where no present is open, or a bit or a preamble waits in the slot, no pulse overlaps one; behind a RESYNC pulse one
may (20_memory.md R83, 70_reset_and_hazards.md R293). The slot's durations are at the classes' bounds. -/
theorem test_overlap_admitted :
    step { fresh with stim := [.overlapped] } = .refused .overlapWithoutPresent ∧
    (∃ t, step { idleState with stim := [.overlapped] } = .next t) ∧
    [0, 3999, 4000, 13999, 14000, 18000, 18001].map (fun d =>
        overlapAdmitted (pulse (BitVec.ofNat 32 d) { idleState with window := .latest })) =
      [false, false, true, true, false, false, true] :=
  ⟨rfl, ⟨_, rfl⟩, by decide⟩

/-- A pass that takes a command's first bit, or a preamble, shuts the window; the next present opens it; a sleep leaves
it to the pulse that spans the sleep, which the next pass ends (R293, 60_exceptions.md R273). -/
theorem test_window :
    [1000, 2000, 16000].map (fun d => answers (step { pulse (BitVec.ofNat 32 d) { idleState with window := .latest } with
        stim := [.pass 1000#32 1000#32] }) (fun t => t.window = .shut)) = [true, true, true] ∧
    answers (step (idleState.withFetchWord 8 0x80)) (fun t => t.window = .latest) = true ∧
    answers (step { offState with stim := [.pass 100000#32 100100#32] }) (fun t => t.window = .spanning) = true ∧
    answers (step { sleepState true with window := .spanning, stim := [.pass 100100#32 100100#32] })
      (fun t => t.window = .shut) = true := by decide

theorem witness_StepRefusesIllFormedConfig :
    step { fresh with cfg := { Config.test with nPixels := 0 } } = .refused .illFormedConfig ∧
    step { fresh with cfg := { Config.test with split := 0#32 } } = .refused .illFormedConfig ∧
    ¬ (1 ≤ ({ Config.test with nPixels := 0 } : Config).nPixels) := ⟨rfl, rfl, by decide⟩

theorem witness_ResetMeetsInvariants :
    Config.test.wf = true ∧ (List.replicate 4 Rgb.white).length = Config.test.nPixels := by decide

/-- The invariants hold in the W7 state and so do the regions; the next stimulus breaks no duty, or one. -/
theorem witness_StepKeepsInvariants : Invariants idleState ∧ Regions idleState ∧
    (let s := { idleState with suppress := true, window := .shut, stim := [.overlapped] }
     Invariants s ∧ s.suppress = true ∧ (nextStimulus s).1 = .overlapped) ∧
    (let s := { idleState with stim := [.pass 1001#32 1001#32] }
     Invariants s ∧ brokenDuty (nextStimulus s).1 (nextStimulus s).2 = none) ∧
    (let s := { idleState with stim := [.pass 999#32 999#32] }
     Invariants s ∧ brokenDuty (nextStimulus s).1 (nextStimulus s).2 = some .timeDuty) :=
  ⟨by constructor <;> decide, by constructor <;> decide, ⟨by constructor <;> decide, by decide⟩,
    ⟨by constructor <;> decide, by decide⟩, ⟨by constructor <;> decide, by decide⟩⟩

/-- The invariants of the wake: in Off with a waking edge owed and the wake time ahead of the last pass. -/
theorem witness_owed_edge : Invariants (sleepState true) ∧ Regions (sleepState true) ∧
    ∃ t, step { sleepState true with stim := [.deliver 5000#32] } = .next t :=
  ⟨by constructor <;> decide, by constructor <;> decide, ⟨_, rfl⟩⟩

/-- And in the middle of an ignition and of a darkening, where the regions say something. -/
theorem witness_StepKeepsAnimationRegions :
    (Invariants ignitingState ∧ Regions ignitingState ∧
      ∃ t, step { ignitingState with stim := [.pass 182#32 182#32] } = .next t) ∧
    (Invariants (darkState 382#32) ∧ Regions (darkState 382#32) ∧
      ∃ t, step { darkState 382#32 with stim := [.pass 407#32 407#32] } = .next t) ∧
    (Invariants offState ∧ Regions offState ∧ ∃ t, step { offState with stim := [.deliver 1000#32] } = .next t) :=
  ⟨⟨by constructor <;> decide, by constructor <;> decide, ⟨_, rfl⟩⟩,
    ⟨by constructor <;> decide, by constructor <;> decide, ⟨_, rfl⟩⟩,
    ⟨by constructor <;> decide, by constructor <;> decide, ⟨_, rfl⟩⟩⟩

/-- A delivery and a pass from states that meet the invariants (the hypotheses of OnlyListedTransitionsAreReachable,
StepFrame and TraceIsAppendedAndNeverRead). -/
theorem witness_OnlyListedTransitionsAreReachable :
    (∃ t, step { idleState with stim := [.deliver 1000#32], trace := [] } = .next t) ∧
    (∃ t, step (ignitingState.withFetchWord 8 0x40) = .next t) := ⟨⟨_, rfl⟩, ⟨_, rfl⟩⟩

/-- A quick re-ignite and an elapsed clash both change the mode. -/
theorem witness_ColorModeChangesOnlyByIgniteOrClash :
    answers (step ({ idleState with extTsValid := true, extTs := 900#32 }.withFetchWord 8 0x20))
      (fun t => t.colorMode ≠ .stock) = true ∧
    answers (step { clashState .wheelCycle 139#32 with stim := [.pass 140#32 140#32] })
      (fun t => t.colorMode ≠ .wheelCycle) = true := by decide

/-- An ignite raises the LED power; an off, the first pass, an extinguish without delay or darkening, and the end of a
darkening cut it. -/
theorem witness_LedPowerFollowsIgniteAndOff :
    answers (step (offState.withFetchWord 8 0x20)) (fun t => t.ledPower = true ∧ offState.ledPower = false) = true ∧
    answers (step (idleState.withFetchWord 8 0x80)) (fun t => t.ledPower = false ∧ idleState.ledPower = true) = true ∧
    (let s := { fresh with ledPower := true, stim := [.pass 0#32 0#32] }
     answers (step s) (fun t => t.ledPower = false ∧ s.ledPower = true ∧ s.state = .uninitialized) = true) ∧
    (let s := { darkState 456#32 with stim := [.pass 457#32 457#32] }
     answers (step s) (fun t => t.ledPower = false ∧ s.ledPower = true ∧ t.state = .off) = true) ∧
    answers (step ({ idleState with profFam := .b }.withFetchWord 8 0x40)) (fun t =>
      t.ledPower = false ∧ idleState.ledPower = true ∧ t.state = .off) = true := by decide

theorem witness_StepFrame :
    answers (step ({ idleState with extTsValid := true }.withFetchWord 8 0x40)) (fun t => t.profValid = true) = true ∧
    answers (step { idleState with stim := [.pass 1001#32 1001#32] }) (fun t => t.lastCommand = 0x20#8) = true ∧
    (let s := { idleState with stim := [.deliver 1000#32] }
     answers (step s) (fun t => t.slotValid = true) = true ∧ (nextStimulus s).1 = .deliver 1000#32) ∧
    answers (step { sleepState true with stim := [.pass 100100#32 100100#32] }) (fun t => t.wakeOwed = true) = true := by
  decide

theorem witness_TraceIsAppendedAndNeverRead : ∃ t, step { idleState.withFetchWord 8 0x11 with trace := [] } = .next t :=
  ⟨_, rfl⟩

/-- A sleep by a tick, by a step, and a step without one. -/
theorem witness_SleepOnlyFromOff :
    (let s := { offState with now := 100000#32, trace := [.sleep] }
     (tick s).trace = s.trace ++ [.sleep]) ∧
    answers (step { offState with stim := [.pass 100000#32 100100#32] }) (fun t =>
      t.trace = offState.trace ++ [.sleep] ∧ t.state = .off ∧ t.timerStart = 100100#32) = true ∧
    answers (step { offState with stim := [.pass 99999#32 99999#32] }) (fun t => t.trace = offState.trace) = true := by
  decide

end Sys2Proof.Tests
end

section
/-! The slot's read, `Take()` (20_memory.md R72): one equation for a full slot and one for an empty one. -/

namespace Sys2Proof.Machine

variable {s : State}

theorem take_eq_of_slotValid (h : s.slotValid = true) :
    take s = ({ s with slotValid := false }, some s.slotDur) := if_pos h

theorem take_eq_of_slotEmpty (h : s.slotValid = false) : take s = (s, none) := by
  simp [take, h]

/-- R72: whatever the slot held, it is empty after `Take()`. -/
@[simp] theorem take_slotValid (s : State) : (take s).1.slotValid = false := by
  cases h : s.slotValid with
  | true => rw [take_eq_of_slotValid h]
  | false => rw [take_eq_of_slotEmpty h, h]

/-- Settles O6: one equation for a full slot and one for an empty one; the second take finds the slot the first one
left empty. -/
theorem takeReadsAndClearsSlot : Obligations.TakeReadsAndClearsSlot := fun s =>
  ⟨take_eq_of_slotValid, take_eq_of_slotEmpty, congrArg Prod.snd (take_eq_of_slotEmpty (take_slotValid s))⟩

end Sys2Proof.Machine
end

section
/-! The grouping of bit pulses into bytes (30_encoding.md R92). `BitsTaken bs s` says that the decoder holds the bits
`bs` of an unfinished byte. A bit pulse either adds its bit to them or, as the eighth, publishes the byte they make; so
what a run of pulses publishes is read off the bits already held followed by the bits of the run. -/

namespace Sys2Proof.Machine

open Sys2Proof.Claims

/-- Eight bits shifted in replace whatever the accumulator held, the first of them in bit 7. -/
theorem foldl_shiftIn_eight (a : Byte) (b7 b6 b5 b4 b3 b2 b1 b0 : Bool) :
    [b7, b6, b5, b4, b3, b2, b1, b0].foldl shiftIn a = byteOfBits b7 b6 b5 b4 b3 b2 b1 b0 := by
  apply BitVec.eq_of_toNat_eq
  simp only [List.foldl_cons, List.foldl_nil, shiftIn_eq, byteOfBits, BitVec.toNat_ofNat]
  omega

/-- Fewer than eight bits make no byte. -/
theorem bytesOfBits_eq_nil {bs : List Bool} (h : bs.length < 8) : bytesOfBits bs = [] := by
  unfold bytesOfBits
  split
  · simp only [List.length_cons] at h
    omega
  · rfl

/-- The first eight bits make the byte that they leave in the accumulator. -/
theorem bytesOfBits_append (a : Byte) {bs : List Bool} (h : bs.length = 8) (rest : List Bool) :
    bytesOfBits (bs ++ rest) = bs.foldl shiftIn a :: bytesOfBits rest := by
  match bs, h with
  | [b7, b6, b5, b4, b3, b2, b1, b0], _ => rw [foldl_shiftIn_eight]; rfl

/-- A duration below CUTOFF is the bit its comparison with SPLIT says (R91, 40_decoder.md R111). -/
theorem consumePulse_of_lt_cutoff {s : State} {d : Time} (hd : d < s.cfg.cutoff) :
    consumePulse d s = bitPulse (decide (s.cfg.split ≤ d)) { s with lastPulseTs := s.now } := by
  by_cases hs : d < s.cfg.split
  · simp [consumePulse, classify, hs, BitVec.not_le.mpr hs]
  · simp [consumePulse, classify, hs, hd, BitVec.not_lt.mp hs]

/-- A decode pass that takes a bit pulse is that pulse's operation (40_decoder.md R110, R111). -/
theorem decodePass_of_lt_cutoff {s : State} (hv : s.slotValid = true) (hd : s.slotDur < s.cfg.cutoff) :
    decodePass s =
      bitPulse (decide (s.cfg.split ≤ s.slotDur)) { s with slotValid := false, lastPulseTs := s.now } := by
  rw [decodePass, take_eq_of_slotValid hv]
  exact consumePulse_of_lt_cutoff (s := { s with slotValid := false }) hd

/-- The decoder holds the bits `bs`, in their order of arrival, over some older content of the accumulator. -/
structure BitsTaken (bs : List Bool) (s : State) : Prop where
  count : s.nbits.toNat = bs.length
  acc : ∃ a, s.acc = bs.foldl shiftIn a

theorem bitsTaken_nil {s : State} (h : s.nbits = 0#3) : BitsTaken [] s := ⟨by simp [h], s.acc, rfl⟩

/-- A bit pulse adds its bit to those held, or publishes the byte it completes and holds none (R115, R116): either
way the bytes of what is held and of what follows stay the same. -/
theorem BitsTaken.bitPulse {bs : List Bool} {s : State} (h : BitsTaken bs s) (b : Bool) :
    ∃ bs', BitsTaken bs' (bitPulse b s).1 ∧
      ∀ rest, (bitPulse b s).2.toList ++ bytesOfBits (bs' ++ rest) = bytesOfBits (bs ++ b :: rest) := by
  obtain ⟨hcount, a, hacc⟩ := h
  by_cases hn : s.nbits = 7#3
  · have hlen : (bs ++ [b]).length = 8 := by simp [← hcount, hn]
    refine ⟨[], bitsTaken_nil (by simp [Machine.bitPulse, finalBit, hn]), fun rest => ?_⟩
    rw [List.append_cons bs, bytesOfBits_append a hlen]
    simp [Machine.bitPulse, finalBit, hn, hacc]
  · have hcount' : (s.nbits + 1#3).toNat = (bs ++ [b]).length := by
      have hne : s.nbits.toNat ≠ 7 := fun h7 => hn (BitVec.eq_of_toNat_eq h7)
      simp only [BitVec.toNat_add, BitVec.toNat_ofNat, List.length_append, List.length_singleton]
      omega
    refine ⟨bs ++ [b], ⟨?_, a, ?_⟩, fun rest => ?_⟩ <;> simp [Machine.bitPulse, hn, hcount', hacc]

@[simp] theorem bitPulse_cfg (b : Bool) (s : State) : (bitPulse b s).1.cfg = s.cfg := by
  unfold bitPulse
  split <;> rfl

/-- The first pulse of a run, when it is a bit pulse: its operation, then the rest of the run. -/
theorem published_cons_of_lt_cutoff {s : State} {d : Time} (ds : List Time) (hd : d < s.cfg.cutoff) :
    published (d :: ds) s =
      let r := bitPulse (decide (s.cfg.split ≤ d)) { s with slotValid := false, slotDur := d, lastPulseTs := s.now }
      r.2.toList ++ published ds r.1 := by
  rw [published, decodePass_of_lt_cutoff rfl hd]

/-- R92, from any bits already held: a run of bit pulses publishes the bytes of those bits followed by its own. -/
theorem published_eq_bytesOfBits (ds : List Time) {bs : List Bool} {s : State} (h : BitsTaken bs s)
    (hd : ∀ d ∈ ds, d < s.cfg.cutoff) :
    published ds s = bytesOfBits (bs ++ ds.map fun d => decide (s.cfg.split ≤ d)) := by
  induction ds generalizing bs s with
  | nil => rw [published, List.map_nil, List.append_nil, bytesOfBits_eq_nil (h.count ▸ s.nbits.isLt)]
  | cons d ds ih =>
    obtain ⟨hlt, hds⟩ := List.forall_mem_cons.mp hd
    have htaken : BitsTaken bs { s with slotValid := false, slotDur := d, lastPulseTs := s.now } := ⟨h.count, h.acc⟩
    obtain ⟨bs', hnext, hbytes⟩ := htaken.bitPulse (decide (s.cfg.split ≤ d))
    rw [published_cons_of_lt_cutoff ds hlt, List.map_cons, ← hbytes]
    simp only [ih hnext (by simpa using hds), bitPulse_cfg]

/-- Settles O14: an empty bit count holds no bits, so the bytes are those of the run alone. -/
theorem everyEightBitPulsesPublishTheirByte : Obligations.EveryEightBitPulsesPublishTheirByte :=
  fun _ ds hn hd => published_eq_bytesOfBits ds (bitsTaken_nil hn) hd

end Sys2Proof.Machine
end

section
/-! A decode pass that takes a PREAMBLE pulse (40_decoder.md R113). -/

namespace Sys2Proof.Machine

theorem split_lt_cutoff_of_wf {cfg : Config} (hw : cfg.wf = true) : cfg.split < cfg.cutoff := by
  simp only [Config.wf, Config.thresholdsOk, Bool.and_eq_true, decide_eq_true_eq] at hw
  obtain ⟨⟨⟨⟨⟨-, hlt⟩, -⟩, -⟩, -⟩, -⟩ := hw
  exact hlt

/-- A duration of at least CUTOFF is of neither bit class: where SPLIT is below CUTOFF, the preamble band alone decides
its class (30_encoding.md R91). -/
theorem classify_of_cutoff_le {cfg : Config} {d : Time} (hw : cfg.wf = true) (hd : cfg.cutoff ≤ d) :
    classify cfg d = if cfg.preambleLo ≤ d ∧ d ≤ cfg.preambleHi then .preamble else .resync := by
  have hsplit : ¬d < cfg.split :=
    BitVec.not_lt.mpr (BitVec.le_trans (BitVec.le_of_lt (split_lt_cutoff_of_wf hw)) hd)
  rw [classify, if_neg hsplit, if_neg (BitVec.not_lt.mpr hd)]

/-- A decode pass over a full slot empties it and consumes its pulse (R110, R111). -/
theorem decodePass_of_slotValid {s : State} (hv : s.slotValid = true) :
    decodePass s = consumePulse s.slotDur { s with slotValid := false } := by
  rw [decodePass, take_eq_of_slotValid hv]

/-- A pulse of the preamble class is stamped and does R113's operation; it publishes nothing. -/
theorem consumePulse_of_preamble {s : State} {d : Time} (hc : classify s.cfg d = .preamble) :
    consumePulse d s = (preamblePulse d { s with lastPulseTs := s.now }, none) := by
  rw [consumePulse, hc]

/-- Settles O9: the band puts the pulse in the preamble class, and the stamp is the pass's `now`. -/
theorem preambleEmptiesAndSuppresses : Obligations.PreambleEmptiesAndSuppresses := by
  intro s hw hv hcut hlo hhi
  have hc : classify s.cfg s.slotDur = .preamble := by
    rw [classify_of_cutoff_le hw hcut, if_pos ⟨hlo, hhi⟩]
  have hpass := (decodePass_of_slotValid hv).trans (consumePulse_of_preamble hc)
  exact ⟨s.now, hpass⟩

end Sys2Proof.Machine
end

section
/-! The commands that no guard holds back (41_commands.md R141 to R144, R149, R150, R155, R156): one equation each, in the
operations of the model and the byte as its two nibbles. Every one writes `last_command` before anything else (R140). -/

namespace Sys2Proof.Machine

variable (p : Nibble) (s : State)

theorem exec_nop0 :
    exec (.nop0 p) s = .next (emit (.unrecognized (0x0#4 ++ p)) (recordCommand (0x0#4 ++ p) s)) := rfl

theorem exec_nop1 :
    exec (.nop1 p) s = .next (emit (.unrecognized (0x1#4 ++ p)) (recordCommand (0x1#4 ++ p) s)) := rfl

theorem exec_igniteA :
    exec (.igniteA p) s = .next (enter .igniting (selectProfile .a p (recordCommand (0x2#4 ++ p) s))) := rfl

theorem exec_igniteB :
    exec (.igniteB p) s = .next (enter .igniting (selectProfile .b p (recordCommand (0x3#4 ++ p) s))) := rfl

theorem exec_off8 : exec (.off8 p) s = .next (enter .off (recordCommand (0x8#4 ++ p) s)) := rfl

theorem exec_off9 : exec (.off9 p) s = .next (enter .off (recordCommand (0x9#4 ++ p) s)) := rfl

theorem exec_offE : exec (.offE p) s = .next (enter .off (recordCommand (0xE#4 ++ p) s)) := rfl

theorem exec_offF : exec (.offF p) s = .next (enter .off (recordCommand (0xF#4 ++ p) s)) := rfl

/-- Settles O15: the record's `emit` appends to the trace and `recordCommand` writes `last_command`, and a NOP does no
third thing. -/
theorem nopsOnlyRecordTheCommand : Obligations.NopsOnlyRecordTheCommand := fun p s =>
  ⟨exec_nop0 p s, exec_nop1 p s⟩

/-- Settles O16: the state handed to the entry is that of `recordCommand` and then `selectProfile`, field by field. -/
theorem igniteSelectsProfileAndEnters : Obligations.IgniteSelectsProfileAndEnters := fun p s =>
  ⟨exec_igniteA p s, exec_igniteB p s⟩

/-- Settles O19: no off looks at the state it meets. -/
theorem offIsTakenInEveryState : Obligations.OffIsTakenInEveryState := fun p s =>
  ⟨exec_off8 p s, exec_off9 p s, exec_offE p s, exec_offF p s⟩

end Sys2Proof.Machine
end

section
/-! The entry of Extinguishing (42_state_entry.md R178), first in the operations of the model, one line for each line of
the rule, then field by field. -/

namespace Sys2Proof.Machine

variable (s : State)

/-- The delay armed is that of the profile active before the entry: no step of it chooses a profile or changes the
table. -/
theorem enter_extinguishing :
    enter .extinguishing s =
      armTimer (activeProfile s).extinguishDelay
        (setAnimCount 0
          { setState .extinguishing s with extTs := s.now, extTsValid := true, extPhase := .delay }) := rfl

/-- Settles O30: the count restarts whatever it was, the timer starts at the pass's `now`, and none of the operations
writes a pixel. -/
theorem enterExtinguishingEffect : Obligations.EnterExtinguishingEffect := by
  intro s
  rw [enter_extinguishing, armTimer, setAnimCount, setState, activeProfile]

end Sys2Proof.Machine
end

section
/-! The elapsed timer (10_state.md R37) as the rules of 43_tick.md test it. -/

namespace Sys2Proof.Machine

variable {s : State}

theorem elapsed_iff : elapsed s = true ↔ s.timerArmed = true ∧ s.timerLen ≤ s.now - s.timerStart := by
  rw [elapsed, Bool.and_eq_true, decide_eq_true_iff]

theorem elapsed_eq_false_iff : elapsed s = false ↔ s.timerArmed = false ∨ s.now - s.timerStart < s.timerLen := by
  rw [elapsed, Bool.and_eq_false_iff, decide_eq_false_iff_not, BitVec.not_le]

end Sys2Proof.Machine
end

section
/-! The Clash tick (43_tick.md R209): one equation for an elapsed timer and one for a running or disarmed one. -/

namespace Sys2Proof.Machine

variable {s : State}

/-- The four steps of R209 in their order: the colour filled in is the one the toggle leaves. -/
theorem tick_clash_of_elapsed (hs : s.state = .clash) (he : elapsed s = true) :
    tick s = enter .idle (clearTimer (markDirty (fillAll (clashToggle s).primaryColor (clashToggle s)))) := by
  simp only [tick, hs, clashTick, he, if_true]

theorem tick_clash_of_not_elapsed (hs : s.state = .clash) (he : elapsed s = false) : tick s = s := by
  simp only [tick, hs, clashTick, he, Bool.false_eq_true, if_false]

/-- Settles O39: the toggle keeps the configuration, so the fill after it covers the whole strip. -/
theorem clashTickRevertsToPrimary : Obligations.ClashTickRevertsToPrimary := by
  intro s hs
  constructor
  · intro he
    have hcfg : (clashToggle s).cfg = s.cfg := by simp only [clashToggle_fields]
    rw [← hcfg]
    exact tick_clash_of_elapsed hs (elapsed_iff.mpr he)
  · intro he
    exact tick_clash_of_not_elapsed hs (elapsed_eq_false_iff.mpr he)

end Sys2Proof.Machine
end

section
/-! The wheel period by colour mode (43_tick.md R218). -/

namespace Sys2Proof.Machine

theorem wheelPeriod_wheelCycleWhite (cfg : Config) : wheelPeriod cfg .wheelCycleWhite = 2#32 * cfg.wheelPeriod := rfl

theorem wheelPeriod_of_ne (cfg : Config) {m : ColorMode} (h : m ≠ .wheelCycleWhite) :
    wheelPeriod cfg m = cfg.wheelPeriod := by
  unfold wheelPeriod
  split
  · contradiction
  · rfl

/-- Settles O44: the product of two words is the product of their values modulo 2^32. -/
theorem wheelPeriodDoublesInWhite : Obligations.WheelPeriodDoublesInWhite := by
  intro cfg m
  by_cases h : m = .wheelCycleWhite
  · rw [if_pos h, h, wheelPeriod_wheelCycleWhite, BitVec.toNat_mul, BitVec.toNat_ofNat]
  · rw [if_neg h, wheelPeriod_of_ne cfg h]

end Sys2Proof.Machine
end

section
/-! No command and no pass stops the block (60_exceptions.md R260). -/

namespace Sys2Proof.Machine

/-- Settles O22: every command completes (`exec_step`); a pass runs at most one command between phases that cannot
fail, so it completes with it (`runPass_step`). -/
theorem nothingEverStops : Obligations.NothingEverStops := by
  refine ⟨fun i s => ?_, fun now wake s => ?_⟩
  · obtain ⟨t, hexec, -⟩ := exec_step s i
    exact ⟨t, hexec⟩
  · obtain ⟨u, -, hpass⟩ := runPass_step s now wake
    exact ⟨finishPhases u, hpass⟩

end Sys2Proof.Machine
end

section
/-! Decode and encode agree (30_encoding.md R94, R95, R98): a byte's nibbles select its row and its parameter, and they
are what the encoder writes. -/

namespace Sys2Proof

/-- Settles O1: over the 16 parameters, for each of the 16 rows. -/
theorem highNibbleSelectsRow : Obligations.HighNibbleSelectsRow := by
  unfold Obligations.HighNibbleSelectsRow
  decide

/-- Settles O2: the words are concrete. -/
theorem testVectorWordsDecode : Obligations.TestVectorWordsDecode := by
  unfold Obligations.TestVectorWordsDecode
  decide

/-- The byte of an instruction decodes to it: its row is the one its high nibble selects. -/
theorem decodeByte_encodeByte (i : Instr) : decodeByte (encodeByte i) = i := by
  obtain ⟨h0, h1, h2, h3, h4, h5, h6, h7, h8, h9, hA, hB, hC, hD, hE, hF⟩ := highNibbleSelectsRow i.param
  cases i with
  | nop0 => exact h0
  | nop1 => exact h1
  | igniteA => exact h2
  | igniteB => exact h3
  | extinguish4 => exact h4
  | extinguish5 => exact h5
  | flickerLo => exact h6
  | flickerHi => exact h7
  | off8 => exact h8
  | off9 => exact h9
  | setcolorA => exact hA
  | setcolorB => exact hB
  | clashC => exact hC
  | clashD => exact hD
  | offE => exact hE
  | offF => exact hF

/-- The instruction a byte decodes to encodes to that byte (R98). -/
theorem encodeByte_decodeByte (c : Byte) : encodeByte (decodeByte c) = c := by
  revert c
  decide

/-- Settles O3: an instruction's encoding is its one byte, which decodes to it; the bytes after it are not read. -/
theorem decodeOfEncodeIsIdentity : Obligations.DecodeOfEncodeIsIdentity := by
  intro i rest _
  rw [encode, List.singleton_append, decode, decodeByte_encodeByte]

/-- Settles O4: the encoder is the decoder's inverse on both sides, so a byte's instruction is its only one. -/
theorem everyByteDecodesToItsOnlyInstruction : Obligations.EveryByteDecodesToItsOnlyInstruction := by
  refine ⟨fun c rest => ⟨decodeByte c, rfl, congrArg (fun b => [b]) (encodeByte_decodeByte c), fun k hk => ?_⟩, rfl⟩
  have hbyte : encodeByte k = c := List.singleton_inj.mp hk
  rw [← hbyte, decodeByte_encodeByte]

end Sys2Proof
end

section
/-! The pulse classes (30_encoding.md R91) and the decode pass for each of them (40_decoder.md R110 to R119). -/

namespace Sys2Proof.Machine

theorem classify_of_lt_split {cfg : Config} {d : Time} (hd : d < cfg.split) : classify cfg d = .bit0 := if_pos hd

theorem classify_of_lt_cutoff {cfg : Config} {d : Time} (hs : cfg.split ≤ d) (hd : d < cfg.cutoff) :
    classify cfg d = .bit1 := by
  rw [classify, if_neg (BitVec.not_lt.mpr hs), if_pos hd]

/-- Settles O5: three ranges of the duration, and in the third the band decides. -/
theorem pulseClassesPartition : Obligations.PulseClassesPartition := by
  intro cfg d hw
  have hsc : cfg.split < cfg.cutoff := split_lt_cutoff_of_wf hw
  by_cases hd : d < cfg.split
  · rw [classify_of_lt_split hd]
    have hc : d < cfg.cutoff := BitVec.lt_trans hd hsc
    simp [hd, hc]
  · have hs : cfg.split ≤ d := BitVec.not_lt.mp hd
    by_cases hd : d < cfg.cutoff
    · rw [classify_of_lt_cutoff hs hd]
      simp [hs, hd]
    · have hc : cfg.cutoff ≤ d := BitVec.not_lt.mp hd
      rw [classify_of_cutoff_le hw hc]
      by_cases hband : cfg.preambleLo ≤ d ∧ d ≤ cfg.preambleHi
      · simp [hs, hc, hband]
      · simp [hs, hc, hband]

/-- A pulse of the RESYNC class is stamped and does R112's operation; it publishes nothing. -/
theorem consumePulse_of_resync {s : State} {d : Time} (hc : classify s.cfg d = .resync) :
    consumePulse d s = (resyncPulse d { s with lastPulseTs := s.now }, none) := by
  rw [consumePulse, hc]

/-- Settles O10: outside the band a duration of at least CUTOFF is a RESYNC. -/
theorem resyncDiscardsPartialByte : Obligations.ResyncDiscardsPartialByte := by
  intro s hw hv hcut hband
  have hc : classify s.cfg s.slotDur = .resync := by
    rw [classify_of_cutoff_le hw hcut, if_neg hband]
  exact (decodePass_of_slotValid hv).trans (consumePulse_of_resync hc)

/-- A bit before the eighth is counted (R115). -/
theorem bitPulse_of_ne_seven {s : State} (b : Bool) (hn : s.nbits ≠ 7#3) :
    bitPulse b s = ({ s with acc := shiftIn s.acc b, nbits := s.nbits + 1#3, suppress := true }, none) := if_neg hn

/-- The eighth bit publishes (R116). -/
theorem bitPulse_of_seven {s : State} (b : Bool) (hn : s.nbits = 7#3) :
    bitPulse b s = finalBit (shiftIn s.acc b) { s with acc := shiftIn s.acc b } := if_pos hn

/-- The accumulator after a bit, with the bit as R91 reads it off the duration (R114). -/
theorem shiftIn_of_duration (a : Byte) (split d : Time) :
    shiftIn a (decide (split ≤ d)) = BitVec.ofNat 8 (2 * a.toNat + if d < split then 0 else 1) := by
  rw [shiftIn_eq]
  by_cases hd : d < split
  · rw [if_pos hd, decide_eq_false (BitVec.not_le.mpr hd), Bool.toNat_false]
  · rw [if_neg hd, decide_eq_true (BitVec.not_lt.mp hd), Bool.toNat_true]

/-- Settles O11: a duration below CUTOFF is a bit, shifted in and then counted or published; the stamp is `now`. -/
theorem bitPulseShiftsInOrPublishes : Obligations.BitPulseShiftsInOrPublishes := by
  intro s _ hv hd
  rw [decodePass_of_lt_cutoff hv hd, ← shiftIn_of_duration]
  exact ⟨fun hn => ⟨s.now, bitPulse_of_ne_seven _ hn⟩, fun hn => ⟨s.now, bitPulse_of_seven _ hn⟩⟩

/-- A decode pass over an empty slot only checks the timeout (R111). -/
theorem decodePass_of_slotEmpty {s : State} (hv : s.slotValid = false) : decodePass s = (timeoutCheck s, none) := by
  rw [decodePass, take_eq_of_slotEmpty hv]

theorem timedOut_iff {s : State} :
    timedOut s = true ↔ s.suppress = true ∧ s.cfg.decTimeout < s.now - s.lastPulseTs := by
  rw [timedOut, Bool.and_eq_true, decide_eq_true_iff]

/-- Settles O12: with no pulse there is the timeout check alone, and its condition is strict. -/
theorem timeoutEmptiesDecoder : Obligations.TimeoutEmptiesDecoder := by
  intro s hv
  rw [decodePass_of_slotEmpty hv]
  constructor
  · intro hs ht
    rw [timeoutCheck, if_pos (timedOut_iff.mpr ⟨hs, ht⟩)]
    rfl
  · intro hquiet
    rw [timeoutCheck, if_neg]
    intro h
    obtain ⟨hs, ht⟩ := timedOut_iff.mp h
    rcases hquiet with hn | hle
    · rw [hs] at hn
      cases hn
    · exact BitVec.not_le.mpr ht hle

/-- Settles O13: the cases of `decodePass_step`; a pulse is taken exactly where the slot holds one. -/
theorem decodePassTouchesOnlyDecoder : Obligations.DecodePassTouchesOnlyDecoder := by
  intro s
  refine ⟨(decodePass s).1.acc, (decodePass s).1.nbits, (decodePass s).1.suppress, (decodePass s).1.trace, ?_⟩
  have hstep := decodePass_step s
  generalize decodePass s = r at hstep ⊢
  cases hstep with
  | quiet hv => rw [hv, if_neg Bool.false_ne_true, ← hv]
  | timeout hv => simp only [hv, Bool.false_eq_true, if_false, emit, emptyDecoder]
  | pulse hv r hr =>
    cases hr with
    | resync | preamble | counted | published => simp only [hv, if_true, resyncPulse, preamblePulse, emit, emptyDecoder]

end Sys2Proof.Machine
end

section
/-! The slot's writers: a delivery (20_memory.md R71) and a pulse that overlapped a present (R83). -/

namespace Sys2Proof.Machine

variable {s : State} (d : Time)

theorem deliver_of_slotEmpty (hv : s.slotValid = false) :
    deliver d s = endPulse { s with slotDur := d, slotValid := true } := by
  rw [deliver, if_neg (ne_true_of_eq_false hv)]

theorem deliver_of_slotValid (hv : s.slotValid = true) :
    deliver d s =
      endPulse { s with slotDur := if overrunKeepsNew s then d else s.slotDur, draws := overrunDraws s } := by
  rw [deliver, if_pos hv]

/-- Settles O7: one equation for an empty slot and one for a full one, and there `OVERRUN` decides. -/
theorem deliverStoresOrOverruns : Obligations.DeliverStoresOrOverruns := by
  intro s d w
  have hw : w = s.window.pulseEnded := s.window.pulseEnded_eq.symm
  rw [hw]
  refine ⟨fun hv => ?_, fun hv ho => ?_, fun hv ho => ?_, fun hv ho => ?_⟩
  · rw [deliver_of_slotEmpty d hv, endPulse]
  · rw [deliver_of_slotValid d hv, overrunKeepsNew, overrunDraws, ho, if_pos rfl, endPulse]
  · rw [deliver_of_slotValid d hv, overrunKeepsNew, overrunDraws, ho, if_neg Bool.false_ne_true, endPulse]
  · rw [deliver_of_slotValid d hv, overrunKeepsNew, overrunDraws, ho, endPulse]
    cases Config.freeOverrunKeepsNew s.draws with
    | true => exact .inl rfl
    | false => exact .inr rfl

/-- Settles O8: the free capture answers nothing or some duration. -/
theorem overlappedPulseIsLostOrMismeasured : Obligations.OverlappedPulseIsLostOrMismeasured := by
  intro s
  rw [← s.window.pulseEnded_eq, deliverOverlapped]
  cases Config.freeCapture s.draws with
  | none => exact .inl rfl
  | some d => exact .inr ⟨d, rfl⟩

end Sys2Proof.Machine
end

section
/-! The arithmetic of the rules: the target of an animation (43_tick.md R202), the flicker levels (42_state_entry.md
R180), the dimming (R211) and the wheel (R215). -/

namespace Sys2Proof.Machine

/-- `Target` before the clamp is the quotient that rounds half up (R202). -/
theorem target_of_pos {e len n : Nat} (hlen : 0 < len) : target e len n = min n ((2 * e * n + len) / (2 * len)) := by
  rw [target, if_neg (by omega)]

/-- The target never falls as time passes. -/
theorem target_mono {e e' : Nat} (len n : Nat) (he : e ≤ e') : target e len n ≤ target e' len n := by
  rcases Nat.eq_zero_or_pos len with rfl | hlen
  · exact le_rfl
  · rw [target_of_pos hlen, target_of_pos hlen]
    gcongr

/-- It is the whole strip exactly where the fraction rounds half up to it. -/
theorem target_eq_iff {e len n : Nat} (hlen : 0 < len) : target e len n = n ↔ 2 * len * n ≤ 2 * e * n + len := by
  rw [target_of_pos hlen, min_eq_left_iff, Nat.le_div_iff_mul_le (by omega), Nat.mul_comm n]

/-- Up to the end of the animation the clamp does nothing: the fraction rounds to at most the strip. -/
theorem target_of_le {e len n : Nat} (hlen : 0 < len) (he : e ≤ len) :
    target e len n = (2 * e * n + len) / (2 * len) := by
  have hen : e * n ≤ len * n := Nat.mul_le_mul_right n he
  rw [target_of_pos hlen, min_eq_right_iff, ← Nat.lt_add_one_iff, Nat.div_lt_iff_lt_mul (by omega)]
  nlinarith

/-- Settles O33: the half-up bounds are those of the quotient, `target_of_le`. -/
theorem targetRoundsTheElapsedFraction : Obligations.TargetRoundsTheElapsedFraction := by
  intro e e' len n
  refine ⟨target_zero_len e n, fun hlen => ?_, fun he => ?_, target_le e len n, target_mono len n, fun hlen he => ?_,
    target_eq_iff⟩
  · rw [target_of_le hlen (Nat.zero_le len), Nat.div_eq_of_lt (by omega)]
  · rcases Nat.eq_zero_or_pos len with rfl | hlen
    · exact target_zero_len e n
    · have hen : len * n ≤ e * n := Nat.mul_le_mul_right n he
      exact (target_eq_iff hlen).mpr (by nlinarith)
  · rw [target_of_le hlen he]
    exact ⟨Nat.mul_div_le _ _, Nat.lt_mul_div_succ _ (by omega)⟩

/-- Settles O32: over the 16 parameters. -/
theorem flickerLevelsFillTheirHalves : Obligations.FlickerLevelsFillTheirHalves := by
  unfold Obligations.FlickerLevelsFillTheirHalves
  decide

/-- The dimmed level fits a byte, so it is the quotient itself. -/
theorem dim_toNat (b : Byte) : (dim b).toNat = 4 * b.toNat / 5 := by
  rw [dim, BitVec.toNat_ofNat, Nat.mod_eq_of_lt (by omega)]

/-- Settles O42: the bounds of the quotient by 5. -/
theorem dimLeavesFourFifths : Obligations.DimLeavesFourFifths := by
  intro b
  rw [dim_toNat]
  omega

/-- Settles O43: over the 256 phases. -/
theorem wheelIsAFullSaturationCycle : Obligations.WheelIsAFullSaturationCycle := by
  unfold Obligations.WheelIsAFullSaturationCycle
  decide

end Sys2Proof.Machine
end

section
/-! The operations of an entry, field by field: the colour mode's advance (42_state_entry.md R171, R175), the LED power
(10_state.md R42) and the colours (R176). -/

namespace Sys2Proof.Machine

variable {s : State}

theorem quickReignite_iff :
    quickReignite s = true ↔ s.extTsValid = true ∧ s.now - s.extTs < s.cfg.colorModeChangeTime := by
  rw [quickReignite, Bool.and_eq_true, decide_eq_true_iff]

theorem advanceMode_eq (s : State) :
    advanceMode s = { s with colorMode := if quickReignite s then nextMode s.colorMode else s.colorMode } := by
  unfold advanceMode
  split <;> rfl

theorem setPower_eq (level : Bool) (s : State) :
    setPower level s = { s with
      ledPower := if s.cfg.hasPowerGate then level else s.ledPower
      trace := s.trace ++ if s.cfg.hasPowerGate then [.power level] else [] } := by
  unfold setPower
  split
  · rfl
  · rw [List.append_nil]

theorem derive_of_stock (h : s.colorMode = .stock) : derive s = { s with
    primaryColor := colorOf s.cfg (activeProfile s).colorIndex, clashColor := Rgb.white } := by
  simp only [derive, h]

theorem derive_of_wheel (h : s.colorMode = .wheelCycle ∨ s.colorMode = .wheelHold) :
    derive s = { s with primaryColor := wheel s.wheelIndex, clashColor := Rgb.white } := by
  rcases h with h | h <;> simp only [derive, h]

theorem derive_of_white (h : s.colorMode = .wheelCycleWhite ∨ s.colorMode = .wheelHoldWhite) :
    derive s = { s with primaryColor := Rgb.white, clashColor := Rgb.yellow } := by
  rcases h with h | h <;> simp only [derive, h]

/-- Settles O28: one equation for each pair of colours. -/
theorem deriveColoursByMode : Obligations.DeriveColoursByMode := fun _ =>
  ⟨derive_of_stock, derive_of_wheel, derive_of_white⟩

/-- The wheel-cycle modes, as a disjunction (10_state.md R32). -/
theorem cycles_iff {m : ColorMode} : m.cycles = true ↔ m = .wheelCycle ∨ m = .wheelCycleWhite := by
  cases m <;> simp [ColorMode.cycles]

end Sys2Proof.Machine
end

section
/-! The profile store and the colour table (20_memory.md R63, R64). -/

namespace Sys2Proof.Machine

theorem lookup_mem (cfg : Config) (i : Nibble) :
    lookup cfg .a i ∈ cfg.profileA ∧ lookup cfg .b i ∈ cfg.profileB :=
  ⟨Vector.getElem_mem i.isLt, Vector.getElem_mem i.isLt⟩

/-- Every profile is some family's at some index. -/
theorem colorsOk_iff (cfg : Config) :
    cfg.colorsOk = true ↔ ∀ f i, (lookup cfg f i).colorIndex < cfg.colorTable.length := by
  simp only [Config.colorsOk, Bool.and_eq_true, List.all_eq_true, decide_eq_true_iff, Vector.mem_toList_iff]
  constructor
  · rintro ⟨ha, hb⟩ f i
    cases f with
    | a => exact ha _ (lookup_mem cfg i).1
    | b => exact hb _ (lookup_mem cfg i).2
  · intro h
    refine ⟨fun p hp => ?_, fun p hp => ?_⟩
    · obtain ⟨i, hi, rfl⟩ := Vector.mem_iff_getElem.mp hp
      have hlook := h .a (BitVec.ofNatLT i hi)
      exact hlook
    · obtain ⟨i, hi, rfl⟩ := Vector.mem_iff_getElem.mp hp
      have hlook := h .b (BitVec.ofNatLT i hi)
      exact hlook

/-- A well-formed configuration, condition by condition (00_scope.md R6, R7; 20_memory.md R64). -/
theorem wf_iff (cfg : Config) : cfg.wf = true ↔
    0#32 < cfg.split ∧ cfg.split < cfg.cutoff ∧ cfg.cutoff ≤ cfg.preambleLo ∧ cfg.preambleLo ≤ cfg.preambleHi ∧
      1 ≤ cfg.nPixels ∧ cfg.wheelPeriod ≠ 0#32 ∧ ∀ f i, (lookup cfg f i).colorIndex < cfg.colorTable.length := by
  rw [← colorsOk_iff]
  simp only [Config.wf, Config.thresholdsOk, Config.preambleBandOk, Config.stripOk, Config.wheelOk, Bool.and_eq_true,
    decide_eq_true_iff, and_assoc]

/-- Settles O29: a nibble is an index of the table, and a well-formed configuration's colour indices are in range. -/
theorem profilesNameColoursOfTheTable : Obligations.ProfilesNameColoursOfTheTable := by
  intro cfg i
  refine ⟨Vector.getElem?_eq_getElem i.isLt, Vector.getElem?_eq_getElem i.isLt, fun hw f => ?_⟩
  obtain ⟨-, -, -, -, -, -, hcolors⟩ := (wf_iff cfg).mp hw
  rw [colorOf, List.getD_eq_getElem _ _ (hcolors f i), List.getElem?_eq_getElem]

end Sys2Proof.Machine
end

section
/-! The entries, field by field (42_state_entry.md R171 to R182). -/

namespace Sys2Proof.Machine

variable (s : State)

/-- Settles O24: the eight steps in their order; the colours are derived under the mode of step 1. -/
theorem enterIgnitingEffect : Obligations.EnterIgnitingEffect := by
  refine ⟨fun s => ?_, rfl, rfl, rfl, rfl, rfl⟩
  have hquick : quickReignite (setState .igniting s) = true ↔
      s.extTsValid = true ∧ s.now - s.extTs < s.cfg.colorModeChangeTime := quickReignite_iff
  have hmode : advanceMode (setState .igniting s) = { s with
      state := .igniting
      colorMode := if s.extTsValid = true ∧ s.now - s.extTs < s.cfg.colorModeChangeTime
        then nextMode s.colorMode else s.colorMode } := by
    rw [advanceMode_eq]
    simp only [hquick]
    rfl
  simp only [enter, enterIgniting, hmode, setPower_eq, activeProfile, armTimer, setAnimCount, markDirty, setBrightness,
    fillAll, derive_fields]

/-- Settles O25: the power is cut after the strip is cleared, and the timer is armed last. -/
theorem enterOffEffect : Obligations.EnterOffEffect := by
  intro s
  rw [enter, enterOff, setPower_eq]
  rfl

/-- Settles O26: Idle's entry overwrites the state On wrote. -/
theorem onPassesThroughToIdle : Obligations.OnPassesThroughToIdle := fun _ => rfl

variable {s} in
theorem enterIdle_of_armed_or_holding (h : s.timerArmed = true ∨ s.colorMode.cycles = false) :
    enter .idle s = { s with state := .idle } := by
  rw [enter, enterIdle, if_neg]
  · rfl
  · rintro ⟨hc, ha⟩
    rcases h with h | h
    · exact Bool.false_ne_true (ha.symm.trans h)
    · exact Bool.false_ne_true (h.symm.trans hc)

variable {s} in
theorem enterIdle_of_cycling (hc : s.colorMode.cycles = true) (ha : s.timerArmed = false) :
    enter .idle s = { s with
      state := .idle, timerArmed := true, timerStart := s.now, timerLen := wheelPeriod s.cfg s.colorMode } := by
  rw [enter, enterIdle, if_pos ⟨hc, ha⟩]
  rfl

/-- Settles O27: the timer is armed exactly in a cycling mode with none armed. -/
theorem enterIdleArmsWheelTimer : Obligations.EnterIdleArmsWheelTimer := by
  refine fun s => ⟨fun ha hm => ?_, fun ha hm => ?_, fun h => ?_⟩
  · rw [enterIdle_of_cycling (cycles_iff.mpr (.inl hm)) ha, hm, wheelPeriod_of_ne s.cfg (by decide)]
  · have hdouble : BitVec.ofNat 32 (2 * s.cfg.wheelPeriod.toNat) = wheelPeriod s.cfg .wheelCycleWhite := by
      rw [wheelPeriod_wheelCycleWhite]
      apply BitVec.eq_of_toNat_eq
      rw [BitVec.toNat_mul, BitVec.toNat_ofNat, BitVec.toNat_ofNat]
    rw [enterIdle_of_cycling (cycles_iff.mpr (.inr hm)) ha, hm, hdouble]
  · apply enterIdle_of_armed_or_holding
    rw [← Bool.not_eq_true s.colorMode.cycles, cycles_iff, not_or]
    exact h

/-- Settles O31: in Stock the colours are derived before the fill; then On's entry, the last step, is Idle's. -/
theorem enterRefreshEffect : Obligations.EnterRefreshEffect := by
  intro s u
  show enterRefresh s = _
  have hmode : (setState .refresh s).colorMode = s.colorMode := rfl
  by_cases hm : s.colorMode = .stock
  · have hderive : derive (setState .refresh s) = { setState .refresh s with
        primaryColor := colorOf s.cfg (activeProfile s).colorIndex, clashColor := Rgb.white } := derive_of_stock hm
    simp only [u, enterRefresh, hmode, if_pos hm, hderive, derive_of_stock hm]
    rfl
  · simp only [u, enterRefresh, hmode, if_neg hm]
    rfl

theorem enter_clash : enter .clash s = { s with
    state := .clash, fb := List.replicate s.cfg.nPixels s.clashColor, dirty := true,
    timerArmed := true, timerStart := s.now, timerLen := s.cfg.clashTime } := rfl

/-- A flicker's level is that of the low nibble of `last_command` (R181, R182). -/
theorem enter_flickerLow : enter .flickerLow s = { s with
    state := .flickerLow, brightness := flickerLevelLow (paramOf s.lastCommand),
    sinkBrightness := flickerLevelLow (paramOf s.lastCommand),
    dirty := true, timerArmed := true, timerStart := s.now, timerLen := s.cfg.flickerTime } := rfl

theorem enter_flickerHigh : enter .flickerHigh s = { s with
    state := .flickerHigh, brightness := flickerLevelHigh (paramOf s.lastCommand),
    sinkBrightness := flickerLevelHigh (paramOf s.lastCommand),
    dirty := true, timerArmed := true, timerStart := s.now, timerLen := s.cfg.flickerTime } := rfl

end Sys2Proof.Machine
end

section
/-! The guarded commands (41_commands.md R145 to R148, R151 to R154): one equation each, then what the guard decides. -/

namespace Sys2Proof.Machine

variable (p : Nibble) (s : State)

theorem exec_extinguish4 : exec (.extinguish4 p) s =
    .next (enterWithProfile .extinguishing (0x4#4 ++ p) (recordCommand (0x4#4 ++ p) s)) := rfl

theorem exec_extinguish5 : exec (.extinguish5 p) s =
    .next (enterWithProfile .extinguishing (0x5#4 ++ p) (recordCommand (0x5#4 ++ p) s)) := rfl

theorem exec_flickerLo : exec (.flickerLo p) s =
    .next (enterWithProfile .flickerLow (0x6#4 ++ p) (recordCommand (0x6#4 ++ p) s)) := rfl

theorem exec_flickerHi : exec (.flickerHi p) s =
    .next (enterWithProfile .flickerHigh (0x7#4 ++ p) (recordCommand (0x7#4 ++ p) s)) := rfl

theorem exec_setcolorA : exec (.setcolorA p) s =
    .next (setColor .a p (0xA#4 ++ p) (recordCommand (0xA#4 ++ p) s)) := rfl

theorem exec_setcolorB : exec (.setcolorB p) s =
    .next (setColor .b p (0xB#4 ++ p) (recordCommand (0xB#4 ++ p) s)) := rfl

theorem exec_clashC : exec (.clashC p) s =
    .next (enterWithProfile .clash (0xC#4 ++ p) (recordCommand (0xC#4 ++ p) s)) := rfl

theorem exec_clashD : exec (.clashD p) s =
    .next (enterWithProfile .clash (0xD#4 ++ p) (recordCommand (0xD#4 ++ p) s)) := rfl

variable {s}

theorem enterWithProfile_of_profile (b : BladeState) (c : Byte) (h : s.profValid = true) :
    enterWithProfile b c (recordCommand c s) = enter b { s with lastCommand := c } := if_pos h

theorem enterWithProfile_of_noProfile (b : BladeState) (c : Byte) (h : s.profValid = false) :
    enterWithProfile b c (recordCommand c s) =
      { s with lastCommand := c, trace := s.trace ++ [.dropped c .noProfile] } :=
  if_neg (ne_true_of_eq_false h)

theorem setColor_of_settled (f : Family) (c : Byte) (h : s.state = .idle ∨ s.state = .off) :
    setColor f p c (recordCommand c s) =
      enter .refresh { s with lastCommand := c, profValid := true, profFam := f, profIdx := p } :=
  if_pos (by rw [settled_iff]; exact decide_eq_true h)

theorem setColor_of_unsettled (f : Family) (c : Byte) (h : ¬(s.state = .idle ∨ s.state = .off)) :
    setColor f p c (recordCommand c s) =
      { s with lastCommand := c, trace := s.trace ++ [.dropped c (.guard s.state)] } :=
  if_neg (by rw [settled_iff]; exact ne_true_of_eq_false (decide_eq_false h))

/-- The parameter of a byte is its low nibble, whatever its family (30_encoding.md R94). -/
theorem paramOf_append (f p : Nibble) : paramOf (f ++ p) = p := by
  revert f p
  decide

/-- Settles O17: the guard chooses between the entry and the record. -/
theorem extinguishEntersOrIsDropped : Obligations.ExtinguishEntersOrIsDropped := by
  intro p s
  rw [exec_extinguish4, exec_extinguish5]
  constructor
  · intro h
    rw [enterWithProfile_of_profile _ _ h, enterWithProfile_of_profile _ _ h]
    exact ⟨rfl, rfl⟩
  · intro h
    rw [enterWithProfile_of_noProfile _ _ h, enterWithProfile_of_noProfile _ _ h]
    exact ⟨rfl, rfl⟩

/-- Settles O18: the level reaches the entry through `last_command`, whose low nibble is the parameter. -/
theorem flickerSetsLevelOrIsDropped : Obligations.FlickerSetsLevelOrIsDropped := by
  intro p s
  rw [exec_flickerLo, exec_flickerHi]
  constructor
  · intro h
    rw [enterWithProfile_of_profile _ _ h, enterWithProfile_of_profile _ _ h, enter_flickerLow, enter_flickerHigh]
    simp only [paramOf_append]
    exact ⟨rfl, rfl⟩
  · intro h
    rw [enterWithProfile_of_noProfile _ _ h, enterWithProfile_of_noProfile _ _ h]
    exact ⟨rfl, rfl⟩

/-- Settles O20: the settled states take the command, every other state drops it. -/
theorem setcolorTakenOnlyWhenSettled : Obligations.SetcolorTakenOnlyWhenSettled := by
  intro p s
  rw [exec_setcolorA, exec_setcolorB]
  constructor
  · intro h
    rw [setColor_of_settled p _ _ h, setColor_of_settled p _ _ h]
    exact ⟨rfl, rfl⟩
  · intro hidle hoff
    have h : ¬(s.state = .idle ∨ s.state = .off) := not_or.mpr ⟨hidle, hoff⟩
    rw [setColor_of_unsettled p _ _ h, setColor_of_unsettled p _ _ h]
    exact ⟨rfl, rfl⟩

/-- Settles O21: the guard chooses between Clash's entry and the record. -/
theorem clashFillsStripOrIsDropped : Obligations.ClashFillsStripOrIsDropped := by
  intro p s
  rw [exec_clashC, exec_clashD]
  constructor
  · intro h
    rw [enterWithProfile_of_profile _ _ h, enterWithProfile_of_profile _ _ h, enter_clash, enter_clash]
    exact ⟨rfl, rfl⟩
  · intro h
    rw [enterWithProfile_of_noProfile _ _ h, enterWithProfile_of_noProfile _ _ h]
    exact ⟨rfl, rfl⟩

end Sys2Proof.Machine
end

section
/-! What a command does along its row (30_encoding.md R95, 41_commands.md R158): the inversion of `exec` that remembers
which state the row enters. -/

namespace Sys2Proof.Machine

open Sys2Proof.Claims

/-- The state whose on-entry behaviour a row runs where its command is taken; none for the unrecognised rows (R95). -/
def rowEntry : Instr → Option BladeState
  | .nop0 _ | .nop1 _ => none
  | .igniteA _ | .igniteB _ => some .igniting
  | .extinguish4 _ | .extinguish5 _ => some .extinguishing
  | .flickerLo _ => some .flickerLow
  | .flickerHi _ => some .flickerHigh
  | .off8 _ | .off9 _ | .offE _ | .offF _ => some .off
  | .setcolorA _ | .setcolorB _ => some .refresh
  | .clashC _ | .clashD _ => some .clash

/-- A command writes `last_command`; then it only makes a record, or selects a profile (or keeps the one there is) and
enters its row's state. Either way the blade lands in the row's resulting state. -/
inductive RowStep (s : State) (i : Instr) : State → Prop where
  | recorded (r : Record) (hrow : rowState i s.state s.profValid = s.state) :
    RowStep s i (emit r (recordCommand (encodeByte i) s))
  | entered (b : BladeState) (v : Bool) (f : Family) (x : Nibble) (hentry : rowEntry i = some b)
    (hrow : ∀ u, rowState i s.state s.profValid = (enter b u).state) :
    RowStep s i (enter b { s with lastCommand := encodeByte i, profValid := v, profFam := f, profIdx := x })

variable {s : State} {i : Instr}

theorem enterWithProfile_rowStep {b : BladeState} (hentry : rowEntry i = some b)
    (hrow : rowState i s.state s.profValid = if s.profValid then b else s.state) (hb : ∀ u, (enter b u).state = b) :
    RowStep s i (enterWithProfile b (encodeByte i) (recordCommand (encodeByte i) s)) := by
  cases hp : s.profValid with
  | true =>
    rw [enterWithProfile_of_profile _ _ hp]
    rw [hp, if_pos rfl] at hrow
    exact .entered b s.profValid s.profFam s.profIdx hentry fun u => by rw [hp, hrow, hb]
  | false =>
    rw [enterWithProfile_of_noProfile _ _ hp]
    exact .recorded _ (by rw [hrow, hp, if_neg Bool.false_ne_true])

theorem setColor_rowStep {f : Family} {p : Nibble} (hentry : rowEntry i = some .refresh)
    (hrow : rowState i s.state s.profValid = if s.state = .idle ∨ s.state = .off then .idle else s.state) :
    RowStep s i (setColor f p (encodeByte i) (recordCommand (encodeByte i) s)) := by
  by_cases hs : s.state = .idle ∨ s.state = .off
  · rw [setColor_of_settled p f _ hs]
    exact .entered .refresh true f p hentry fun u => by rw [hrow, if_pos hs, enter_state]
  · rw [setColor_of_unsettled p f _ hs]
    exact .recorded _ (by rw [hrow, if_neg hs])

/-- A command that completed went along its row. -/
theorem exec_rowStep {t : State} (h : exec i s = .next t) : RowStep s i t := by
  cases i with
  | nop0 p => rw [exec_nop0] at h; cases h; exact .recorded _ rfl
  | nop1 p => rw [exec_nop1] at h; cases h; exact .recorded _ rfl
  | igniteA p =>
    rw [exec_igniteA] at h; cases h; exact .entered .igniting _ _ _ rfl fun u => (enter_state u .igniting).symm
  | igniteB p =>
    rw [exec_igniteB] at h; cases h; exact .entered .igniting _ _ _ rfl fun u => (enter_state u .igniting).symm
  | extinguish4 p =>
    rw [exec_extinguish4] at h; cases h; exact enterWithProfile_rowStep rfl rfl fun u => enter_state u _
  | extinguish5 p =>
    rw [exec_extinguish5] at h; cases h; exact enterWithProfile_rowStep rfl rfl fun u => enter_state u _
  | flickerLo p =>
    rw [exec_flickerLo] at h; cases h; exact enterWithProfile_rowStep rfl rfl fun u => enter_state u _
  | flickerHi p =>
    rw [exec_flickerHi] at h; cases h; exact enterWithProfile_rowStep rfl rfl fun u => enter_state u _
  | off8 p => rw [exec_off8] at h; cases h; exact .entered .off _ _ _ rfl fun u => (enter_state u .off).symm
  | off9 p => rw [exec_off9] at h; cases h; exact .entered .off _ _ _ rfl fun u => (enter_state u .off).symm
  | setcolorA p => rw [exec_setcolorA] at h; cases h; exact setColor_rowStep rfl rfl
  | setcolorB p => rw [exec_setcolorB] at h; cases h; exact setColor_rowStep rfl rfl
  | clashC p => rw [exec_clashC] at h; cases h; exact enterWithProfile_rowStep rfl rfl fun u => enter_state u _
  | clashD p => rw [exec_clashD] at h; cases h; exact enterWithProfile_rowStep rfl rfl fun u => enter_state u _
  | offE p => rw [exec_offE] at h; cases h; exact .entered .off _ _ _ rfl fun u => (enter_state u .off).symm
  | offF p => rw [exec_offF] at h; cases h; exact .entered .off _ _ _ rfl fun u => (enter_state u .off).symm

theorem RowStep.state_eq {t : State} (h : RowStep s i t) : t.state = rowState i s.state s.profValid := by
  cases h with
  | recorded r hrow => exact hrow.symm
  | entered b v f x hentry hrow => exact (hrow _).symm

theorem RowStep.lastCommand_eq {t : State} (h : RowStep s i t) : t.lastCommand = encodeByte i := by
  cases h with
  | recorded => rfl
  | entered => simp only [enter_frame]

/-- Settles O23: the row gives the state and the byte (`RowStep`), the frame is that of every command. -/
theorem commandMovesStateAlongItsRow : Obligations.CommandMovesStateAlongItsRow := by
  intro i s t h
  have hrow : RowStep s i t := exec_rowStep h
  obtain ⟨hacc, hnbits, hts, hsup, hvalid, hdur, hcfg, hnow, hwake, hawake, howed, hwin, hstim, hdraws, hwheel⟩ :=
    CommandStep.frame s (exec_next_step s h)
  exact ⟨hrow.lastCommand_eq, hrow.state_eq, ⟨hacc, hnbits, hts, hsup, hvalid, hdur, hwheel⟩,
    hcfg, hnow, hwake, hawake, howed, hwin, hstim, hdraws⟩

end Sys2Proof.Machine
end

section
/-! The two animations' ticks (43_tick.md R203 to R205): which tick a state runs, what an animation's progress writes, and
which pixels it colours. -/

namespace Sys2Proof.Machine

variable {s : State}

theorem progress_eq (t : Nat) (s : State) :
    progress t s = { s with animCount := max s.animCount t, dirty := s.dirty || decide (s.animCount < t) } := by
  unfold progress
  split
  · rename_i h
    rw [max_eq_right h.le, decide_eq_true h, Bool.or_true]
    rfl
  · rename_i h
    rw [max_eq_left (not_lt.mp h), decide_eq_false h, Bool.or_false]

/-- Progress over a lit run: the buffer, the count and the dirty flag, and nothing else. -/
theorem progress_lightUp (t : Nat) (c : Rgb) (k n : Nat) (s : State) :
    progress t (lightUp c k n s) = { s with
      fb := (lightUp c k n s).fb, animCount := max s.animCount t, dirty := s.dirty || decide (s.animCount < t) } := by
  rw [progress_eq, lightUp_frame]

theorem progress_darken (t m n : Nat) (s : State) :
    progress t (darken m n s) = { s with
      fb := (darken m n s).fb, animCount := max s.animCount t, dirty := s.dirty || decide (s.animCount < t) } := by
  rw [progress_eq, darken_frame]

/-- Lighting from a count to a target on the strip colours the logical pixels between the two; a target already passed
colours none. -/
theorem lightUp_to_get {c : Rgb} {k t j : Nat} (hs : s.fb.length = s.cfg.nPixels) (ht : t ≤ nLog s.cfg)
    (hj : j < s.cfg.nPixels) :
    (lightUp c k (t - k) s).fb[j]? =
      if k ≤ logicalOf s.cfg j ∧ logicalOf s.cfg j < t then some c else s.fb[j]? := by
  rcases Nat.le_total k t with hk | hk
  · rw [lightUp_get hs (by omega) hj, Nat.add_sub_of_le hk]
  · rw [Nat.sub_eq_zero_of_le hk, lightUp, if_neg (by omega)]

/-- Darkening likewise, counted from the tip. -/
theorem darken_to_get {m t j : Nat} (hs : s.fb.length = s.cfg.nPixels) (ht : t ≤ nLog s.cfg)
    (hj : j < s.cfg.nPixels) :
    (darken m (t - m) s).fb[j]? =
      if nLog s.cfg ≤ logicalOf s.cfg j + t ∧ logicalOf s.cfg j + m < nLog s.cfg then some Rgb.black
      else s.fb[j]? := by
  rcases Nat.le_total m t with hm | hm
  · rw [darken_get hs (by omega) hj, Nat.add_sub_of_le hm]
  · rw [Nat.sub_eq_zero_of_le hm, darken, if_neg (by omega)]

theorem tick_igniting (hs : s.state = .igniting) : tick s = ignitingTick s := by
  simp only [tick, hs]

theorem tick_darkening (hs : s.state = .extinguishing) (hp : s.extPhase = .anim) : tick s = extAnimTick s := by
  simp only [tick, hs, hp]

theorem tick_waiting (hs : s.state = .extinguishing) (hp : s.extPhase = .delay) : tick s = extDelayTick s := by
  simp only [tick, hs, hp]

/-- Settles O34: the frame is that of the lit run, `lightUp_to_get`, and the target is on the strip. -/
theorem ignitingTickLightsToTarget : Obligations.IgnitingTickLightsToTarget := by
  intro s hs hfb
  rw [tick_igniting hs]
  constructor
  · intro ha
    rw [ignitingTick, if_neg (ne_true_of_eq_false ha)]
  · intro ha t
    refine ⟨(lightUp s.primaryColor s.animCount (t - s.animCount) s).fb, (lightUp_length _ _ _ _).trans hfb,
      fun j hj => lightUp_to_get hfb (animTarget_le s) hj, ?_⟩
    rw [ignitingTick, if_pos ha]
    simp only [progress_lightUp]
    rfl

/-- Settles O35: the frame is that of the darkened run, `darken_to_get`. -/
theorem darkeningTickDarkensFromTip : Obligations.DarkeningTickDarkensFromTip := by
  intro s hs hp hfb
  rw [tick_darkening hs hp]
  constructor
  · intro ha
    rw [extAnimTick, if_neg (ne_true_of_eq_false ha)]
  · intro ha t
    refine ⟨(darken s.animCount (t - s.animCount) s).fb, (darken_length _ _ _).trans hfb,
      fun j hj => darken_to_get hfb (animTarget_le s) hj, ?_⟩
    rw [extAnimTick, if_pos ha]
    simp only [progress_darken]
    rfl

/-- Settles O36: the elapsed delay hands the started animation to the darkening's own tick. -/
theorem delayTickStartsDarkening : Obligations.DelayTickStartsDarkening := by
  intro s hs hp
  rw [tick_waiting hs hp]
  constructor
  · intro he
    rw [extDelayTick, if_pos (elapsed_iff.mpr he)]
    refine (tick_darkening ?_ ?_).symm
    · exact hs
    · rfl
  · intro he
    rw [extDelayTick, if_neg (ne_true_of_eq_false (elapsed_eq_false_iff.mpr he))]

end Sys2Proof.Machine
end

section
/-! The ticks of the timed effects (43_tick.md R207 to R214): each acts once its timer elapsed, and before it nothing. -/

namespace Sys2Proof.Machine

variable {s : State}

theorem tick_off (hs : s.state = .off) : tick s = offTick s := by
  simp only [tick, hs]

/-- Settles O37: one equation for the elapsed timer and one for any other. -/
theorem offTickSleepsAndRearms : Obligations.OffTickSleepsAndRearms := by
  intro s hs
  rw [tick_off hs]
  constructor
  · intro he
    rw [offTick, if_pos (elapsed_iff.mpr he)]
    rfl
  · intro he
    rw [offTick, if_neg (ne_true_of_eq_false (elapsed_eq_false_iff.mpr he))]

theorem tick_idle (hs : s.state = .idle) : tick s = idleTick s := by
  simp only [tick, hs]

/-- Settles O38: the wheel advances with a cycling mode and an elapsed timer; the want of either stops it. -/
theorem idleTickAdvancesWheel : Obligations.IdleTickAdvancesWheel := by
  intro s hs
  rw [tick_idle hs]
  constructor
  · intro hm he
    rw [idleTick, if_pos ⟨cycles_iff.mpr hm, elapsed_iff.mpr he⟩]
    rfl
  · intro hstop
    rw [idleTick, if_neg]
    rintro ⟨hc, he⟩
    rcases hstop with hm | htimer
    · exact (not_or.mpr hm) (cycles_iff.mp hc)
    · exact Bool.false_ne_true ((elapsed_eq_false_iff.mpr htimer).symm.trans he)

/-- Settles O40: the toggle derives the colours of the mode it chose (`derive_of_white`, `derive_of_wheel`). -/
theorem clashTogglesWheelCycleOnly : Obligations.ClashTogglesWheelCycleOnly := by
  refine fun s => ⟨fun hm => ?_, fun hm => ?_, fun hcycle hwhite => ?_⟩
  · simp only [clashToggle, hm]
    exact derive_of_white (.inl rfl)
  · simp only [clashToggle, hm]
    exact derive_of_wheel (.inl rfl)
  · unfold clashToggle
    split
    · contradiction
    · contradiction
    · rfl

theorem tick_flicker (hs : s.state = .flickerLow ∨ s.state = .flickerHigh) : tick s = endFlicker s := by
  rcases hs with hs | hs <;> simp only [tick, hs, flickerLowTick, flickerHighTick]

/-- Settles O41: both flickers end alike. -/
theorem flickerTickDimsAndEnds : Obligations.FlickerTickDimsAndEnds := by
  intro s hs
  rw [tick_flicker hs]
  constructor
  · intro he
    rw [endFlicker, if_pos (elapsed_iff.mpr he)]
    rfl
  · intro he
    rw [endFlicker, if_neg (ne_true_of_eq_false (elapsed_eq_false_iff.mpr he))]

end Sys2Proof.Machine
end

section
/-! What a step that answers did (44_loop.md R240, R241, R247): a pulse ended, or a pass ran its phases. The induction over
a step's phases is packaged here once. -/

namespace Sys2Proof.Machine

variable {s : State}

/-- A dispatch is what `dispatchPublished` answers. -/
theorem dispatched_iff {r : State × Option Byte} {u : State} :
    Dispatched r u ↔ dispatchPublished r.2 r.1 = .next u := by
  obtain ⟨v, cmd⟩ := r
  unfold Dispatched dispatchPublished
  constructor
  · rintro (⟨rfl, rfl⟩ | ⟨c, rfl, hexec, -⟩)
    · rfl
    · exact hexec
  · intro h
    cases cmd with
    | none => cases h; exact .inl ⟨rfl, rfl⟩
    | some c => exact .inr ⟨c, rfl, h, exec_next_step _ h⟩

/-- The two kinds of step that answer a next state: a pulse ended, and only the slot, the queue and the notes of it
changed; or a pass ran, in time, and with a wake time that is not before `now` where it sleeps. -/
inductive StepCase (s : State) : State → Prop where
  | pulse (hx : ∀ now wake, (nextStimulus s).1 ≠ .pass now wake) (v : Bool) (d : Time) (q : List Stimulus) (n : Nat) :
    StepCase s { s with
      slotValid := v, slotDur := d, stim := q, draws := n, wakeOwed := false, window := s.window.pulseEnded }
  | pass (now wake : Time) (u : State) (hx : (nextStimulus s).1 = .pass now wake)
    (hd : Dispatched (fetchPhases now wake (nextStimulus s).2) u)
    (hw : sleepDue u = true → wakeDutyKept now wake = true) : StepCase s (finishPhases u)

theorem stepCase_of_next {t : State} (h : step s = .next t) : StepCase s t := by
  obtain ⟨-, -, hduty, hrun⟩ := step_next h
  obtain ⟨q, n, hpoll⟩ := nextStimulus_frame s
  cases hx : (nextStimulus s).1 with
  | deliver d =>
    rw [hx, runStimulus, hpoll] at hrun
    cases hrun
    rw [deliver_frame]
    exact .pulse (by simp [hx]) _ _ _ _
  | overlapped =>
    rw [hx, runStimulus, hpoll] at hrun
    cases hrun
    obtain ⟨v, d, m, hover⟩ := deliverOverlapped_frame { s with stim := q, draws := n }
    rw [hover]
    exact .pulse (by simp [hx]) _ _ _ _
  | pass now wake =>
    rw [hx] at hrun hduty
    obtain ⟨u, hd, rfl⟩ := runPass_next hrun
    obtain ⟨-, hwake⟩ := (brokenDuty_pass_none_iff _ now wake).mp hduty
    rw [callsSleep_eq _ (dispatched_iff.mp hd)] at hwake
    exact .pass now wake u hx hd hwake

/-- An event always answers: nothing in the block stops (60_exceptions.md R260). -/
theorem runStimulus_next (x : Stimulus) (s : State) : ∃ t, runStimulus x s = .next t := by
  cases x with
  | deliver d => exact ⟨_, rfl⟩
  | overlapped => exact ⟨_, rfl⟩
  | pass now wake =>
    obtain ⟨u, -, hrun⟩ := runPass_step s now wake
    exact ⟨_, hrun⟩

/-- Two states whose blade is the same: the fields that the decoder, the slot, the inputs, the present and the queue
leave alone and that the invariants and the regions speak of. -/
structure SameBlade (s t : State) : Prop where
  state : t.state = s.state
  profValid : t.profValid = s.profValid
  colorMode : t.colorMode = s.colorMode
  primaryColor : t.primaryColor = s.primaryColor
  extPhase : t.extPhase = s.extPhase
  animCount : t.animCount = s.animCount
  timerArmed : t.timerArmed = s.timerArmed
  ledPower : t.ledPower = s.ledPower
  fb : t.fb = s.fb
  cfg : t.cfg = s.cfg

theorem sameBlade_latched (now wake : Time) (s : State) :
    SameBlade s (latchInputs now wake (nextStimulus s).2) := by
  obtain ⟨q, n, hpoll⟩ := nextStimulus_frame s
  rw [hpoll]
  exact ⟨rfl, rfl, rfl, rfl, rfl, rfl, rfl, rfl, rfl, rfl⟩

theorem sameBlade_decodePass (s : State) : SameBlade s (decodePass s).1 := by
  obtain ⟨acc, nbits, suppress, trace, h⟩ := decodePassTouchesOnlyDecoder s
  rw [h]
  exact ⟨rfl, rfl, rfl, rfl, rfl, rfl, rfl, rfl, rfl, rfl⟩

theorem sameBlade_presentPhase (s : State) : SameBlade s (presentPhase s) := by
  constructor <;> simp only [presentPhase_fields]

theorem sameBlade_recorded (r : Record) (c : Byte) (s : State) : SameBlade s (emit r (recordCommand c s)) :=
  ⟨rfl, rfl, rfl, rfl, rfl, rfl, rfl, rfl, rfl, rfl⟩

/-- The induction over a step: what the blade's fields alone decide, and the reset exit, every command and every tick
keep, a step keeps. -/
theorem step_keeps {P : State → Prop} (hsame : ∀ s t, SameBlade s t → P s → P t)
    (hexit : ∀ s, s.state = .uninitialized → P s → P (enter .off s))
    (hexec : ∀ i s t, exec i s = .next t → P s → P t) (htick : ∀ s, P s → P (tick s))
    {s t : State} (h : step s = .next t) (hs : P s) : P t := by
  cases stepCase_of_next h with
  | pulse => exact hsame s _ ⟨rfl, rfl, rfl, rfl, rfl, rfl, rfl, rfl, rfl, rfl⟩ hs
  | pass now wake u hx hd =>
    have hlatched : P (latchInputs now wake (nextStimulus s).2) := hsame _ _ (sameBlade_latched now wake s) hs
    have hout : P (resetExit (latchInputs now wake (nextStimulus s).2)) := by
      rw [resetExit_eq]
      split
      · rename_i hu
        exact hexit _ hu hlatched
      · exact hlatched
    have hfetched : P (fetchPhases now wake (nextStimulus s).2).1 := hsame _ _ (sameBlade_decodePass _) hout
    have hu : P u := by
      rcases hd with ⟨-, rfl⟩ | ⟨c, -, hrun, -⟩
      · exact hfetched
      · exact hexec _ _ _ hrun hfetched
    exact hsame _ _ (sameBlade_presentPhase _) (htick u hu)

end Sys2Proof.Machine
end

section
/-! The blade's part of the invariants (10_state.md R30 to R32, R40, R42; 60_exceptions.md R273): every entry establishes
it, and every command and every tick keeps it. -/

namespace Sys2Proof.Machine

/-- The invariants that speak of the blade, the configuration and the sink; they hold inside a pass as well. -/
structure BladeInv (s : State) : Prop where
  config : s.cfg.wf = true
  stateLegal : s.state.legal = true
  notPassing : s.state.passThrough = false
  modeLegal : s.colorMode.legal = true
  profile : preIgnition s = false → s.profValid = true
  strip : s.fb.length = s.cfg.nPixels
  count : s.animCount ≤ nLog s.cfg
  gate : s.cfg.hasPowerGate = false → s.ledPower = false
  darkPower : preIgnition s = true → s.ledPower = false
  timer : s.state.timed = true → s.timerArmed = true

/-- What an entry needs: it writes the state, the timer and, in Off, the LED power itself. -/
structure EntryReady (s : State) : Prop where
  config : s.cfg.wf = true
  modeLegal : s.colorMode.legal = true
  strip : s.fb.length = s.cfg.nPixels
  count : s.animCount ≤ nLog s.cfg
  gate : s.cfg.hasPowerGate = false → s.ledPower = false

variable {s t : State}

theorem Invariants.blade (h : Invariants s) : BladeInv s :=
  ⟨h.config, h.stateLegal, h.notPassing, h.modeLegal, h.profile, h.strip, h.count, h.gate, h.darkPower, h.timer⟩

theorem BladeInv.entryReady (h : BladeInv s) : EntryReady s := ⟨h.config, h.modeLegal, h.strip, h.count, h.gate⟩

theorem EntryReady.of_eq (h : EntryReady s) (hcfg : t.cfg = s.cfg) (hmode : t.colorMode.legal = s.colorMode.legal)
    (hled : t.ledPower = s.ledPower) (hfb : t.fb.length = s.cfg.nPixels) (hcount : t.animCount ≤ nLog s.cfg) :
    EntryReady t :=
  ⟨by rw [hcfg, h.config], by rw [hmode, h.modeLegal], by rw [hcfg, hfb], by rw [hcfg]; exact hcount,
    by rw [hcfg, hled]; exact h.gate⟩

/-- The sink's content and the count may change within their bounds. -/
theorem BladeInv.of_eq (h : BladeInv s) (hstate : t.state = s.state) (hprof : t.profValid = s.profValid)
    (hmode : t.colorMode = s.colorMode) (htimer : t.timerArmed = s.timerArmed) (hled : t.ledPower = s.ledPower)
    (hcfg : t.cfg = s.cfg) (hfb : t.fb.length = t.cfg.nPixels) (hcount : t.animCount ≤ nLog t.cfg) : BladeInv t where
  config := by rw [hcfg, h.config]
  stateLegal := by rw [hstate, h.stateLegal]
  notPassing := by rw [hstate, h.notPassing]
  modeLegal := by rw [hmode, h.modeLegal]
  profile := by rw [preIgnition, hstate, hprof]; exact h.profile
  strip := hfb
  count := hcount
  gate := by rw [hcfg, hled]; exact h.gate
  darkPower := by rw [preIgnition, hstate, hled]; exact h.darkPower
  timer := by rw [hstate, htimer]; exact h.timer

theorem BladeInv.of_sameBlade (e : SameBlade s t) (h : BladeInv s) : BladeInv t :=
  h.of_eq e.state e.profValid e.colorMode e.timerArmed e.ledPower e.cfg (by rw [e.fb, e.cfg, h.strip])
    (by rw [e.animCount, e.cfg]; exact h.count)

/-- An entry of Off, or of any state a command or a tick enters with a profile, leaves the blade's invariants. -/
theorem EntryReady.enter (h : EntryReady s) {b : BladeState} (hlegal : b.legal = true) (hout : b ≠ .uninitialized)
    (hprof : b = .off ∨ s.profValid = true) : BladeInv (enter b s) where
  config := by simp only [enter_frame, h.config]
  stateLegal := by rw [enter_state]; cases b <;> exact hlegal
  notPassing := by rw [enter_state]; cases b <;> rfl
  modeLegal := by
    rw [enter_colorMode]
    split
    · rw [nextMode_legal, h.modeLegal]
    · exact h.modeLegal
  profile := by
    rw [preIgnition_iff, enter_state]
    intro hpre
    rcases hprof with rfl | hprof
    · simp at hpre
    · simpa only [enter_frame] using hprof
  strip := (enter_strip s b h.strip).trans (by simp only [enter_frame])
  count := by
    simp only [enter_frame]
    rcases enter_animCount s b with e | e
    · rw [e]; exact h.count
    · rw [e]; exact Nat.zero_le _
  gate := by
    simp only [enter_frame, enter_ledPower]
    intro hgate
    simp [hgate, h.gate hgate]
  darkPower := by
    rw [preIgnition_iff, enter_state, enter_ledPower]
    intro hpre
    have hoff : b = .off := by cases b <;> simp_all
    cases hgate : s.cfg.hasPowerGate with
    | true => simp [hoff]
    | false => simp [h.gate hgate]
  timer := by
    rw [enter_state]
    intro htimed
    apply enter_timer
    cases b <;> exact htimed

theorem EntryReady.recordCommand (h : EntryReady s) (c : Byte) : EntryReady (recordCommand c s) :=
  ⟨h.config, h.modeLegal, h.strip, h.count, h.gate⟩

theorem EntryReady.selectProfile (h : EntryReady s) (f : Family) (p : Nibble) : EntryReady (selectProfile f p s) :=
  ⟨h.config, h.modeLegal, h.strip, h.count, h.gate⟩

/-- Every command keeps the blade's invariants: it makes a record, or enters Off, or enters another state with a
profile. -/
theorem BladeInv.exec {i : Instr} (h : BladeInv s) (hexec : Machine.exec i s = .next t) : BladeInv t := by
  have hready : EntryReady (Machine.recordCommand (encodeByte i) s) := h.entryReady.recordCommand _
  cases exec_next_step s hexec with
  | recorded r => exact h.of_sameBlade (sameBlade_recorded r _ s)
  | turnedOff => exact hready.enter rfl (by decide) (.inl rfl)
  | entered b hp hb =>
    rcases hb with rfl | rfl | rfl | rfl <;> exact hready.enter rfl (by decide) (.inr hp)
  | ignited f => exact (hready.selectProfile f _).enter rfl (by decide) (.inr rfl)
  | refreshed f => exact (hready.selectProfile f _).enter rfl (by decide) (.inr rfl)

/-- A toggle chooses a mode the rules write (R210). -/
theorem clashToggle_legal (s : State) : (clashToggle s).colorMode.legal = s.colorMode.legal := by
  unfold clashToggle
  split
  · rename_i hm; simp [hm, ColorMode.legal]
  · rename_i hm; simp [hm, ColorMode.legal]
  · rfl

theorem BladeInv.hasProfile (h : BladeInv s) (hout : s.state ≠ .uninitialized) (hoff : s.state ≠ .off) :
    s.profValid = true := by
  apply h.profile
  rw [preIgnition_iff, decide_eq_false_iff_not, not_or]
  exact ⟨hout, hoff⟩

/-- Every tick keeps the blade's invariants. -/
theorem BladeInv.tick (h : BladeInv s) : BladeInv (tick s) := by
  have hfb : (Machine.tick s).fb.length = (Machine.tick s).cfg.nPixels := by simpa using tick_strip s h.strip
  have hcount : (Machine.tick s).animCount ≤ nLog (Machine.tick s).cfg := by simpa using tick_count s h.count
  have hstep : TickStep s (Machine.tick s) := tick_step s
  generalize Machine.tick s = t at hstep hfb hcount
  cases hstep with
  | still => exact h
  | light hs ha => exact h.of_eq (by simp) (by simp) (by simp) (by simp) (by simp) (by simp) hfb hcount
  | dark u hu =>
    obtain ⟨-, -, a, b, rfl⟩ := hu.eq
    exact h.of_eq (by simp) (by simp) (by simp) (by simp) (by simp) (by simp) hfb hcount
  | slept hs he => exact h.of_eq (by simp) (by simp) (by simp) (by simp) (by simp) (by simp) hfb hcount
  | advanced hs hc he => exact h.of_eq (by simp) (by simp) (by simp) (by simp) (by simp) (by simp) hfb hcount
  | lit hs ha ht =>
    exact EntryReady.enter (h.entryReady.of_eq (by simp) (by simp) (by simp) (by simp [lightUp_length, h.strip])
      (by simp [h.count, animTarget_le])) rfl (by decide)
      (.inr (by simpa using h.hasProfile (by simp [hs]) (by simp [hs])))
  | darkened u hu ht =>
    obtain ⟨hs, -, a, b, rfl⟩ := hu.eq
    exact EntryReady.enter (h.entryReady.of_eq (by simp) (by simp) (by simp) (by simp [darken_length, h.strip])
      (by simpa [h.count] using animTarget_le _)) rfl (by decide) (.inl rfl)
  | clashed hs he =>
    exact EntryReady.enter (h.entryReady.of_eq (by simp) (by simp [clashToggle_legal]) (by simp) (by simp)
      (by simp [h.count])) rfl (by decide) (.inr (by simpa using h.hasProfile (by simp [hs]) (by simp [hs])))
  | flickered hs he =>
    have hprof : s.profValid = true := by rcases hs with hs | hs <;> exact h.hasProfile (by simp [hs]) (by simp [hs])
    exact EntryReady.enter (h.entryReady.of_eq (by simp) (by simp) (by simp) (by simp [h.strip])
      (by simp [h.count])) rfl (by decide) (.inr (by simpa using hprof))

end Sys2Proof.Machine
end

section
/-! A pass's fields, phase by phase (44_loop.md R241): what phase 2 finds, what it leaves alone, and what the finish
leaves alone. -/

namespace Sys2Proof.Machine

/-- What phase 2 of a pass at time n, with wake draw w, finds (`v`) of the state before the pass: the inputs latched, the
slot taken, Uninitialized left for Off. -/
structure Fetched (s : State) (n w : Time) (v : State) : Prop where
  slotValid : v.slotValid = false
  state : v.state = if s.state = .uninitialized then .off else s.state
  lastCommand : v.lastCommand = s.lastCommand
  profValid : v.profValid = s.profValid
  profFam : v.profFam = s.profFam
  profIdx : v.profIdx = s.profIdx
  colorMode : v.colorMode = s.colorMode
  extTsValid : v.extTsValid = s.extTsValid
  extTs : v.extTs = s.extTs
  cfg : v.cfg = s.cfg
  now : v.now = n
  wake : v.wake = w
  awakeAt : v.awakeAt = n
  wakeOwed : v.wakeOwed = s.wakeOwed

theorem fetched_fetchPhases (n w : Time) (s : State) : Fetched s n w (fetchPhases n w (nextStimulus s).2).1 := by
  obtain ⟨q, m, hpoll⟩ := nextStimulus_frame s
  by_cases hs : s.state = .uninitialized
  · constructor <;> simp [fetchPhases, resetExit_eq, hpoll, hs, enter_state, enter_colorMode, enter_extTs]
  · constructor <;> simp [fetchPhases, resetExit_eq, hpoll, hs]

/-- What no command writes: the decoder, the slot, the configuration, the inputs and the note of an owed edge. -/
structure SameInputs (v u : State) : Prop where
  nbits : u.nbits = v.nbits
  suppress : u.suppress = v.suppress
  slotValid : u.slotValid = v.slotValid
  cfg : u.cfg = v.cfg
  now : u.now = v.now
  wake : u.wake = v.wake
  awakeAt : u.awakeAt = v.awakeAt
  wakeOwed : u.wakeOwed = v.wakeOwed

theorem Dispatched.sameInputs {r : State × Option Byte} {u : State} (h : Dispatched r u) : SameInputs r.1 u := by
  rcases h with ⟨-, rfl⟩ | ⟨c, -, -, hstep⟩
  · exact ⟨rfl, rfl, rfl, rfl, rfl, rfl, rfl, rfl⟩
  · obtain ⟨-, hnbits, -, hsup, hvalid, -, hcfg, hnow, hwake, hawake, howed, -⟩ := CommandStep.frame _ hstep
    exact ⟨hnbits, hsup, hvalid, hcfg, hnow, hwake, hawake, howed⟩

/-- What the finish leaves alone, and what only its tick writes. -/
@[simp] theorem finishPhases_fields (u : State) :
    (finishPhases u).nbits = u.nbits ∧ (finishPhases u).suppress = u.suppress ∧
      (finishPhases u).slotValid = u.slotValid ∧ (finishPhases u).lastCommand = u.lastCommand ∧
      (finishPhases u).profValid = u.profValid ∧ (finishPhases u).profFam = u.profFam ∧
      (finishPhases u).profIdx = u.profIdx ∧ (finishPhases u).extTsValid = u.extTsValid ∧
      (finishPhases u).extTs = u.extTs ∧ (finishPhases u).cfg = u.cfg ∧ (finishPhases u).now = u.now ∧
      (finishPhases u).state = (tick u).state ∧ (finishPhases u).colorMode = (tick u).colorMode ∧
      (finishPhases u).ledPower = (tick u).ledPower ∧ (finishPhases u).timerArmed = (tick u).timerArmed ∧
      (finishPhases u).timerStart = (tick u).timerStart ∧ (finishPhases u).awakeAt = (tick u).awakeAt ∧
      (finishPhases u).wakeOwed = (tick u).wakeOwed := by
  simp [finishPhases]

/-- Off's tick stays in Off (R207). -/
theorem tick_state_of_off {u : State} (hu : u.state = .off) : (tick u).state = .off := by
  rw [tick_off hu, offTick]
  split <;> exact hu

/-- With an empty slot a pass publishes nothing (40_decoder.md R110). -/
theorem fetched_of_slotEmpty (now wake : Time) {s : State} (hv : s.slotValid = false) :
    (fetchPhases now wake (nextStimulus s).2).2 = none := by
  obtain ⟨q, n, hpoll⟩ := nextStimulus_frame s
  apply decodePass_quiet
  rw [resetExit_eq]
  split <;> simp [hpoll, hv]

end Sys2Proof.Machine
end

section
/-! The invariants (Safety.lean): they hold at reset and every step that answers keeps them. -/

namespace Sys2Proof.Machine

variable {s t : State}

/-- Settles O52: after reset everything is clear, and the strip has the length of the draw. -/
theorem resetMeetsInvariants : Obligations.ResetMeetsInvariants := by
  intro cfg frame level dur hw hlen
  constructor
  · constructor <;> simp [State.resetWith, hw, hlen, BladeState.legal, BladeState.passThrough, BladeState.timed,
      ColorMode.legal, preIgnition]
  · constructor <;> simp [State.resetWith]

/-- Every step keeps the blade's part. -/
theorem BladeInv.step (hs : BladeInv s) (h : step s = .next t) : BladeInv t :=
  step_keeps (fun _ _ he hb => hb.of_sameBlade he)
    (fun _ _ hb => hb.entryReady.enter rfl (by decide) (.inl rfl)) (fun _ _ _ hexec hb => hb.exec hexec)
    (fun _ hb => hb.tick) h hs

/-- After a pass accumulated bits are under suppression: only the decode pass touches either (10_state.md R25). -/
theorem finishPhases_decoder {now wake : Time} {u : State} (hs : s.nbits ≠ 0#3 → s.suppress = true)
    (hd : Dispatched (fetchPhases now wake (nextStimulus s).2) u) :
    (finishPhases u).nbits ≠ 0#3 → (finishPhases u).suppress = true := by
  obtain ⟨q, n, hpoll⟩ := nextStimulus_frame s
  simp only [finishPhases_fields, hd.sameInputs.nbits, hd.sameInputs.suppress]
  apply decodePass_decoder
  rw [resetExit_eq]
  split <;> simpa [hpoll] using hs

/-- After a pass the block is awake since the pass, or since the wake time it slept to (44_loop.md R249). -/
theorem finishPhases_awake {now wake : Time} {u : State}
    (hd : Dispatched (fetchPhases now wake (nextStimulus s).2) u)
    (hw : sleepDue u = true → wakeDutyKept now wake = true) :
    ((finishPhases u).awakeAt - (finishPhases u).now).toNat < 2 ^ 31 := by
  have hv : Fetched s now wake _ := fetched_fetchPhases now wake s
  have hu := hd.sameInputs
  simp only [finishPhases_fields, hu.now, hv.now]
  rcases tick_wake u with ⟨hoff, he, htick⟩ | ⟨-, hkept, -⟩
  · have hsleep : sleepDue u = true := by simp [sleepDue, hoff, he]
    have hduty : (wake - now).toNat < 2 ^ 31 := of_decide_eq_true (hw hsleep)
    rw [htick]
    simpa [hu.wake, hv.wake] using hduty
  · rw [hkept, hu.awakeAt, hv.awakeAt]
    simp

/-- While a waking edge is owed the block stays in Off with an empty slot, from before the pass or from its own sleep
(60_exceptions.md R264). -/
theorem finishPhases_edge {now wake : Time} {u : State}
    (hs : s.wakeOwed = true → s.state = .off ∧ s.slotValid = false)
    (hd : Dispatched (fetchPhases now wake (nextStimulus s).2) u) (howed : (finishPhases u).wakeOwed = true) :
    (finishPhases u).state = .off ∧ (finishPhases u).slotValid = false := by
  have hv : Fetched s now wake _ := fetched_fetchPhases now wake s
  have hu := hd.sameInputs
  simp only [finishPhases_fields] at howed ⊢
  refine ⟨tick_state_of_off ?_, by rw [hu.slotValid, hv.slotValid]⟩
  rcases tick_wake u with ⟨hoff, -, -⟩ | ⟨-, -, hkept⟩
  · exact hoff
  · rw [hkept, hu.wakeOwed, hv.wakeOwed] at howed
    obtain ⟨hsoff, hempty⟩ := hs howed
    rcases hd with ⟨-, rfl⟩ | ⟨c, hc, -⟩
    · rw [hv.state, hsoff]
      rfl
    · rw [fetched_of_slotEmpty now wake hempty] at hc
      cases hc

/-- A step that answers keeps every invariant. -/
theorem Invariants.step (hs : Invariants s) (h : step s = .next t) : Invariants t := by
  have hblade : BladeInv t := hs.blade.step h
  obtain ⟨hconfig, hlegal, hpassing, hmode, hprofile, hstrip, hcount, hgate, hdark, htimer⟩ := hblade
  cases stepCase_of_next h with
  | pulse hx v d q n =>
    refine ⟨hconfig, hlegal, hpassing, hmode, hprofile, hs.decoder, hstrip, hcount, hgate, hdark, htimer, hs.held,
      hs.awake, fun hsup => ?_, fun howed => nomatch howed⟩
    rw [hs.cover hsup]
    rfl
  | pass now wake u hx hd hw =>
    exact ⟨hconfig, hlegal, hpassing, hmode, hprofile, finishPhases_decoder hs.decoder hd, hstrip, hcount, hgate, hdark,
      htimer, presentPhase_held (tick u), finishPhases_awake hd hw, presentPhase_cover (tick u),
      finishPhases_edge hs.edge hd⟩

theorem Invariants.foundFault_none (hs : Invariants s) : foundFault s = none :=
  (foundFault_none_iff s).mpr ⟨hs.stateLegal, hs.modeLegal, hs.profile⟩

/-- Settles O53: `Invariants.step`; an event that breaks no duty answers, and under suppression the window is shut, so no
overlapped pulse is admitted. -/
theorem stepKeepsInvariants : Obligations.StepKeepsInvariants := by
  intro s hs
  have hstep := step_eq hs.config hs.foundFault_none
  constructor
  · cases hduty : brokenDuty (nextStimulus s).1 (nextStimulus s).2 with
    | some r => rw [hstep, hduty]
    | none =>
      obtain ⟨t, hrun⟩ := runStimulus_next (nextStimulus s).1 (nextStimulus s).2
      have ht : Machine.step s = .next t := by rw [hstep, hduty]; exact hrun
      exact ⟨t, ht, hs.step ht⟩
  · intro hsup hx
    obtain ⟨q, n, hpoll⟩ := nextStimulus_frame s
    have hadmit : overlapAdmitted (nextStimulus s).2 = false := by
      rw [hpoll, overlapAdmitted]
      simp [hs.cover hsup]
    have hduty := (brokenDuty_overlapped_some_iff (nextStimulus s).2).mpr hadmit
    rw [hstep, hx, hduty]

end Sys2Proof.Machine
end

section
/-! The animation regions (43_tick.md R206): every entry establishes them, and every command and every tick keeps them. -/

namespace Sys2Proof.Machine

variable {s t : State}

theorem Regions.of_sameBlade (e : SameBlade s t) (h : Regions s) : Regions t where
  igniting := by rw [e.state, e.cfg, e.fb, e.animCount, e.primaryColor]; exact h.igniting
  waiting := by rw [e.state, e.extPhase, e.animCount]; exact h.waiting
  darkening := by rw [e.state, e.extPhase, e.cfg, e.animCount, e.fb]; exact h.darkening
  off := by rw [e.state, e.fb, e.cfg]; exact h.off

/-- Every entry leaves the regions: Igniting's and Off's clear the strip, Extinguishing's starts the delay at count 0. -/
theorem Regions.enter (b : BladeState) (s : State) : Regions (enter b s) := by
  have hstate := enter_state s b
  cases b with
  | igniting =>
    refine ⟨fun _ j hj => ?_, ?_, ?_, ?_⟩
    · have hlt : j < s.cfg.nPixels := by simpa using hj
      simp [Machine.enter, enterIgniting, hlt]
    · simp [hstate]
    · simp [hstate]
    · simp [hstate]
  | extinguishing =>
    refine ⟨?_, fun _ _ => rfl, ?_, ?_⟩
    · simp [hstate]
    · simp [Machine.enter, enterExtinguishing]
    · simp [hstate]
  | off =>
    refine ⟨?_, ?_, ?_, fun _ => ?_⟩
    · simp [hstate]
    · simp [hstate]
    · simp [hstate]
    · simp [Machine.enter, enterOff]
  | _ => constructor <;> simp [hstate]

/-- Every command keeps the regions: it makes a record or enters a state. -/
theorem Regions.exec {i : Instr} (h : Regions s) (hexec : Machine.exec i s = .next t) : Regions t := by
  cases exec_next_step s hexec with
  | recorded r => exact h.of_sameBlade (sameBlade_recorded r _ s)
  | _ => exact Regions.enter _ _

/-- At the start of a pass's darkening every logical pixel from `N - count` on is BLACK: the animation has kept it so, or
the delay ended and the count is 0. -/
theorem Regions.darkStart (h : Regions s) {u : State} (hu : DarkStart s u) :
    ∀ j < s.cfg.nPixels, nLog s.cfg ≤ logicalOf s.cfg j + s.animCount → s.fb[j]? = some Rgb.black := by
  intro j hj htip
  cases hu with
  | running hs hp ha => exact h.darkening hs hp j hj htip
  | starting hs hp he =>
    have hlt : logicalOf s.cfg j < nLog s.cfg := logicalOf_lt hj
    rw [h.waiting hs hp] at htip
    omega

/-- Every tick keeps the regions: a run lit or darkened joins the pixels that were. -/
theorem Regions.tick (hb : BladeInv s) (h : Regions s) : Regions (tick s) := by
  have hstep : TickStep s (Machine.tick s) := tick_step s
  generalize Machine.tick s = t at hstep
  cases hstep with
  | still => exact h
  | light hs ha =>
    rw [progress_lightUp]
    refine ⟨fun _ j hj => ?_, by simp [hs], by simp [hs], by simp [hs]⟩
    show _ = some (if logicalOf s.cfg j < max s.animCount (animTarget s) then s.primaryColor else Rgb.black)
    rw [lightUp_to_get hb.strip (animTarget_le s) hj, h.igniting hs j hj]
    by_cases hlit : logicalOf s.cfg j < s.animCount
    · rw [if_neg (by omega), if_pos hlit, if_pos (by omega)]
    · by_cases hnew : logicalOf s.cfg j < animTarget s
      · rw [if_pos (by omega), if_pos (by omega)]
      · rw [if_neg (by omega), if_neg hlit, if_neg (by omega)]
  | dark u hu =>
    have htip := h.darkStart hu
    obtain ⟨hs, -, a, b, rfl⟩ := hu.eq
    rw [progress_darken]
    refine ⟨by simp [hs], by simp, fun _ _ j hj hblack => ?_, by simp [hs]⟩
    refine (darken_to_get (by exact hb.strip) (animTarget_le _) (by exact hj)).trans ?_
    simp only at hj hblack ⊢
    split
    · rfl
    · exact htip j hj (by omega)
  | slept hs he => refine ⟨?_, ?_, ?_, fun _ => h.off hs⟩ <;> simp [hs]
  | advanced hs hc he => constructor <;> simp [hs]
  | _ => exact Regions.enter _ _

/-- Settles O54: the regions are kept together with the blade's invariants, which bound the strip and the count. -/
theorem stepKeepsAnimationRegions : Obligations.StepKeepsAnimationRegions := by
  intro s t hs hr h
  refine (step_keeps (P := fun s => BladeInv s ∧ Regions s) ?_ ?_ ?_ ?_ h ⟨hs.blade, hr⟩).2
  · exact fun _ _ he h => ⟨h.1.of_sameBlade he, h.2.of_sameBlade he⟩
  · exact fun _ _ h => ⟨h.1.entryReady.enter rfl (by decide) (.inl rfl), Regions.enter _ _⟩
  · exact fun _ _ _ hexec h => ⟨h.1.exec hexec, h.2.exec hexec⟩
  · exact fun _ h => ⟨h.1.tick, h.2.tick h.1⟩

end Sys2Proof.Machine
end

section
/-! Rows and what they can do to the state, the mode and the LED power (30_encoding.md R95; 10_state.md R33, R42). -/

namespace Sys2Proof.Machine

open Sys2Proof.Claims

theorem famOf_append (f p : Nibble) : famOf (f ++ p) = f := by
  revert f p
  decide

/-- The family of a byte is that of the instruction it decodes to. -/
theorem famOf_eq (c : Byte) : famOf c = (decodeByte c).fam := by
  have hbyte : famOf (encodeByte (decodeByte c)) = (decodeByte c).fam := famOf_append _ _
  rwa [encodeByte_decodeByte] at hbyte

theorem ignites_iff {c : Byte} : ignites c ↔ rowEntry (decodeByte c) = some .igniting := by
  rw [ignites, famOf_eq]
  cases decodeByte c <;> simp [Instr.fam, rowEntry]

theorem clashes_iff {c : Byte} : clashes c ↔ rowEntry (decodeByte c) = some .clash := by
  rw [clashes, famOf_eq]
  cases decodeByte c <;> simp [Instr.fam, rowEntry]

theorem extinguishes_iff {c : Byte} : extinguishes c ↔ rowEntry (decodeByte c) = some .extinguishing := by
  rw [extinguishes, famOf_eq]
  cases decodeByte c <;> simp [Instr.fam, rowEntry]

theorem turnsOff_iff {c : Byte} : turnsOff c ↔ rowEntry (decodeByte c) = some .off := by
  rw [turnsOff, famOf_eq]
  cases decodeByte c <;> simp [Instr.fam, rowEntry]

variable {s t : State} {i : Instr}

/-- A command leaves the blade where it was, or where its row's entry lands. -/
theorem RowStep.state_cases (h : RowStep s i t) :
    t.state = s.state ∨ ∃ b u, rowEntry i = some b ∧ t.state = (enter b u).state := by
  cases h with
  | recorded => exact .inl rfl
  | entered b v f x hentry => exact .inr ⟨b, _, hentry, rfl⟩

/-- A command changes the mode only as a quick ignite, which leaves the blade in Igniting. -/
theorem RowStep.colorMode_cases (h : RowStep s i t) : t.colorMode = s.colorMode ∨
    (rowEntry i = some .igniting ∧ quickReignite s = true ∧ t.colorMode = nextMode s.colorMode ∧
      t.state = .igniting) := by
  cases h with
  | recorded => exact .inl rfl
  | entered b v f x hentry =>
    rw [enter_colorMode]
    split
    · rename_i hb
      obtain ⟨rfl, hquick⟩ := hb
      exact .inr ⟨hentry, hquick, rfl, enter_state _ _⟩
    · exact .inl rfl

/-- A command drives the LED power only with a gate: up as an ignite, down as an off. -/
theorem RowStep.ledPower_cases (h : RowStep s i t) : t.ledPower = s.ledPower ∨
    (s.cfg.hasPowerGate = true ∧ ((rowEntry i = some .igniting ∧ t.ledPower = true) ∨
      (rowEntry i = some .off ∧ t.ledPower = false ∧ t.state = .off))) := by
  cases h with
  | recorded => exact .inl rfl
  | entered b v f x hentry =>
    rw [enter_ledPower]
    split
    · rename_i hb
      obtain ⟨hgate, rfl⟩ := hb
      exact .inr ⟨hgate, .inl ⟨hentry, rfl⟩⟩
    · split
      · rename_i hb
        obtain ⟨hgate, rfl⟩ := hb
        exact .inr ⟨hgate, .inr ⟨hentry, rfl, enter_state _ _⟩⟩
      · exact .inl rfl

/-- A tick leaves the state or makes one of the listed moves (41_commands.md R158). -/
theorem tick_state_cases (s : State) : (tick s).state = s.state ∨ tickMove s.state (tick s).state := by
  have hstep := tick_step s
  generalize tick s = t at hstep
  cases hstep with
  | still | slept => exact .inl rfl
  | light | advanced => exact .inl (by simp)
  | dark u hu => obtain ⟨-, -, a, b, rfl⟩ := hu.eq; exact .inl (by simp)
  | lit hs => exact .inr (.inl ⟨hs, enter_state _ _⟩)
  | darkened u hu => exact .inr (.inr (.inl ⟨hu.eq.1, enter_state _ _⟩))
  | clashed hs => exact .inr (.inr (.inr (.inl ⟨hs, enter_state _ _⟩)))
  | flickered hs =>
    rcases hs with hs | hs
    · exact .inr (.inr (.inr (.inr (.inl ⟨hs, enter_state _ _⟩))))
    · exact .inr (.inr (.inr (.inr (.inr ⟨hs, enter_state _ _⟩))))

/-- The clash toggle changes the mode only from one wheel-cycle mode to the other (R210). -/
theorem clashToggle_colorMode_cases (s : State) : (clashToggle s).colorMode = s.colorMode ∨
    (s.colorMode = .wheelCycle ∧ (clashToggle s).colorMode = .wheelCycleWhite) ∨
    (s.colorMode = .wheelCycleWhite ∧ (clashToggle s).colorMode = .wheelCycle) := by
  unfold clashToggle
  split
  · rename_i hm; exact .inr (.inl ⟨hm, by simp⟩)
  · rename_i hm; exact .inr (.inr ⟨hm, by simp⟩)
  · exact .inl rfl

/-- A tick changes the mode only in Clash, as the toggle does. -/
theorem tick_colorMode_cases (s : State) : (tick s).colorMode = s.colorMode ∨
    (s.state = .clash ∧ ((s.colorMode = .wheelCycle ∧ (tick s).colorMode = .wheelCycleWhite) ∨
      (s.colorMode = .wheelCycleWhite ∧ (tick s).colorMode = .wheelCycle))) := by
  have hstep := tick_step s
  generalize tick s = t at hstep
  cases hstep with
  | dark u hu | darkened u hu => obtain ⟨-, -, a, b, rfl⟩ := hu.eq; exact .inl (by simp [enter_colorMode])
  | clashed hs he =>
    rcases clashToggle_colorMode_cases s with hm | hm
    · exact .inl (by simpa [enter_colorMode] using hm)
    · exact .inr ⟨hs, by simpa [enter_colorMode] using hm⟩
  | _ => exact .inl (by simp [enter_colorMode])

/-- A tick drives the LED power only with a gate, down, at the end of a darkening. -/
theorem tick_ledPower_cases (s : State) : (tick s).ledPower = s.ledPower ∨
    (s.cfg.hasPowerGate = true ∧ s.state = .extinguishing ∧ (tick s).state = .off ∧ (tick s).ledPower = false) := by
  have hstep := tick_step s
  generalize tick s = t at hstep
  cases hstep with
  | dark u hu => obtain ⟨-, -, a, b, rfl⟩ := hu.eq; exact .inl (by simp)
  | darkened u hu =>
    obtain ⟨hs, -, a, b, rfl⟩ := hu.eq
    cases hgate : s.cfg.hasPowerGate with
    | true => exact .inr ⟨rfl, hs, enter_state _ _, by simp [enter_ledPower, hgate]⟩
    | false => exact .inl (by simp [enter_ledPower, hgate])
  | _ => exact .inl (by simp [enter_ledPower])

end Sys2Proof.Machine
end

section
/-! What a step can change (10_state.md R28, R29, R33, R38, R42; 41_commands.md R158): the state, the mode, the LED
power, and the frame of everything else. -/

namespace Sys2Proof.Machine

open Sys2Proof.Claims

variable {s t : State}

theorem nextCommand_of_pass {now wake : Time} (hx : (nextStimulus s).1 = .pass now wake) :
    nextCommand s = (fetchPhases now wake (nextStimulus s).2).2 := by
  simp only [nextCommand, hx]

theorem nextCommand_of_pulse (hx : ∀ now wake, (nextStimulus s).1 ≠ .pass now wake) : nextCommand s = none := by
  unfold nextCommand
  split
  · rename_i h
    exact absurd h (hx _ _)
  · rfl
  · rfl

theorem nextTime_of_pass {now wake : Time} (hx : (nextStimulus s).1 = .pass now wake) : nextTime s = now := by
  simp only [nextTime, hx]

/-- What phase 2 of a pass did: nothing where no byte was published, else the row of the published byte. -/
theorem Dispatched.row_cases {now wake : Time} {u : State} (hx : (nextStimulus s).1 = .pass now wake)
    (hd : Dispatched (fetchPhases now wake (nextStimulus s).2) u) :
    (nextCommand s = none ∧ u = (fetchPhases now wake (nextStimulus s).2).1) ∨
      ∃ c, nextCommand s = some c ∧ RowStep (fetchPhases now wake (nextStimulus s).2).1 (decodeByte c) u := by
  rw [nextCommand_of_pass hx]
  rcases hd with ⟨hnone, rfl⟩ | ⟨c, hc, hexec, -⟩
  · exact .inl ⟨hnone, rfl⟩
  · exact .inr ⟨c, hc, exec_rowStep hexec⟩

/-- A blade that phase 2 leaves in a state other than Off and Idle was in it before the pass, or the published byte's row
enters it. -/
theorem Dispatched.state_cases {now wake : Time} {u : State} (hx : (nextStimulus s).1 = .pass now wake)
    (hd : Dispatched (fetchPhases now wake (nextStimulus s).2) u) {b : BladeState} (hu : u.state = b)
    (hoff : b ≠ .off) (hidle : b ≠ .idle) :
    s.state = b ∨ ∃ c, nextCommand s = some c ∧ rowEntry (decodeByte c) = some b := by
  have hbefore : (fetchPhases now wake (nextStimulus s).2).1.state = b → s.state = b := by
    rw [(fetched_fetchPhases now wake s).state]
    split
    · exact fun h => absurd h.symm hoff
    · exact id
  rcases hd.row_cases hx with ⟨-, rfl⟩ | ⟨c, hc, hrow⟩
  · exact .inl (hbefore hu)
  · rcases hrow.state_cases with hkept | ⟨b', v, hentry, hland⟩
    · exact .inl (hbefore (hkept.symm.trans hu))
    · refine .inr ⟨c, hc, ?_⟩
      have hb : b' = b := by
        rw [hland, enter_state] at hu
        split at hu
        · exact absurd hu.symm hidle
        · exact absurd hu.symm hidle
        · exact hu
      rw [hentry, hb]

/-- Settles O55: the row of the published byte (`RowStep.state_eq`), then one tick (`tick_state_cases`). -/
theorem onlyListedTransitionsAreReachable : Obligations.OnlyListedTransitionsAreReachable := by
  intro s t _ h
  cases stepCase_of_next h with
  | pulse hx =>
    split
    · rfl
    · rfl
    · rename_i hp
      exact absurd hp (hx _ _)
  | pass now wake u hx hd =>
    have hv : Fetched s now wake _ := fetched_fetchPhases now wake s
    rw [hx, ← hv.state, ← hv.profValid]
    rcases hd.row_cases hx with ⟨hnone, rfl⟩ | ⟨c, hc, hrow⟩
    · simp only [hnone, finishPhases_fields]
      exact tick_state_cases _
    · simp only [hc, finishPhases_fields]
      rw [← hrow.state_eq]
      exact tick_state_cases u

/-- What phase 2 does to the mode: nothing, or, on a quick ignite, the step to the next mode of the cycle. -/
theorem Dispatched.colorMode_cases {now wake : Time} {u : State} (hx : (nextStimulus s).1 = .pass now wake)
    (hd : Dispatched (fetchPhases now wake (nextStimulus s).2) u) :
    u.colorMode = s.colorMode ∨ (u.state = .igniting ∧ ∃ c, nextCommand s = some c ∧ ignites c ∧
      s.extTsValid = true ∧ nextTime s - s.extTs < s.cfg.colorModeChangeTime ∧
      u.colorMode = nextMode s.colorMode) := by
  have hv : Fetched s now wake _ := fetched_fetchPhases now wake s
  rcases hd.row_cases hx with ⟨-, rfl⟩ | ⟨c, hc, hrow⟩
  · exact .inl hv.colorMode
  · rcases hrow.colorMode_cases with hkept | ⟨hentry, hquick, hnext, hstate⟩
    · exact .inl (hkept.trans hv.colorMode)
    · rw [quickReignite_iff, hv.extTsValid, hv.now, hv.extTs, hv.cfg, ← nextTime_of_pass hx] at hquick
      rw [hv.colorMode] at hnext
      exact .inr ⟨hstate, c, hc, ignites_iff.mpr hentry, hquick.1, hquick.2, hnext⟩

/-- Settles O56: a command changes the mode as a quick ignite and then the tick does not; or the tick changes it, in
Clash, where the step began or which its command entered. -/
theorem colorModeChangesOnlyByIgniteOrClash : Obligations.ColorModeChangesOnlyByIgniteOrClash := by
  intro s t h hne
  cases stepCase_of_next h with
  | pulse => exact absurd rfl hne
  | pass now wake u hx hd =>
    simp only [finishPhases_fields] at hne ⊢
    rcases tick_colorMode_cases u with hkept | ⟨hclash, htoggle⟩
    · rcases hd.colorMode_cases hx with hu | ⟨-, hignite⟩
      · exact absurd (hkept.trans hu) hne
      · rw [hkept]
        exact .inl hignite
    · rcases hd.colorMode_cases hx with hu | ⟨hstate, -⟩
      · rw [hu] at htoggle
        refine .inr ⟨?_, htoggle⟩
        rcases hd.state_cases hx hclash (by decide) (by decide) with hs | ⟨c, hc, hentry⟩
        · exact .inl hs
        · exact .inr ⟨c, hc, clashes_iff.mpr hentry⟩
      · rw [hstate] at hclash
        cases hclash

/-- The reset exit cuts the LED power where there is a gate; nothing else of the fetch phases drives it. -/
theorem fetched_ledPower_cases (now wake : Time) (s : State) :
    let v := (fetchPhases now wake (nextStimulus s).2).1
    v.ledPower = s.ledPower ∨ (s.cfg.hasPowerGate = true ∧ s.state = .uninitialized ∧ v.ledPower = false) := by
  obtain ⟨q, n, hpoll⟩ := nextStimulus_frame s
  by_cases hs : s.state = .uninitialized
  · cases hgate : s.cfg.hasPowerGate <;> simp [fetchPhases, resetExit_eq, hpoll, hs, hgate, enter_ledPower]
  · exact .inl (by simp [fetchPhases, resetExit_eq, hpoll, hs])

/-- A pass that ends with the LED power raised had it raised, or published an ignite: neither the reset exit nor the tick
raises it. -/
theorem Dispatched.ledPower_raised {now wake : Time} {u : State} (hx : (nextStimulus s).1 = .pass now wake)
    (hd : Dispatched (fetchPhases now wake (nextStimulus s).2) u) (ht : (tick u).ledPower = true)
    (hs : s.ledPower = false) : s.cfg.hasPowerGate = true ∧ ∃ c, nextCommand s = some c ∧ ignites c := by
  have hv : (fetchPhases now wake (nextStimulus s).2).1.ledPower = false := by
    rcases fetched_ledPower_cases now wake s with hkept | ⟨-, -, hcut⟩
    · exact hkept.trans hs
    · exact hcut
  have hu : u.ledPower = true := by
    rcases tick_ledPower_cases u with hkept | ⟨-, -, -, hcut⟩
    · exact hkept.symm.trans ht
    · exact absurd (hcut.symm.trans ht) Bool.false_ne_true
  rcases hd.row_cases hx with ⟨-, rfl⟩ | ⟨c, hc, hrow⟩
  · exact absurd (hv.symm.trans hu) Bool.false_ne_true
  · rcases hrow.ledPower_cases with hkept | ⟨hgate, ⟨hentry, -⟩ | ⟨-, hcut, -⟩⟩
    · exact absurd (hv.symm.trans (hkept.symm.trans hu)) Bool.false_ne_true
    · exact ⟨(fetched_fetchPhases now wake s).cfg ▸ hgate, c, hc, ignites_iff.mpr hentry⟩
    · exact absurd (hcut.symm.trans hu) Bool.false_ne_true

/-- What cuts the LED power in phase 2, where the reset exit did not: an off, which leaves the blade in Off. -/
theorem Dispatched.ledPower_cut {now wake : Time} {u : State} (hx : (nextStimulus s).1 = .pass now wake)
    (hd : Dispatched (fetchPhases now wake (nextStimulus s).2) u)
    (hv : (fetchPhases now wake (nextStimulus s).2).1.ledPower = true) (hu : u.ledPower = false) :
    s.cfg.hasPowerGate = true ∧ u.state = .off ∧ ∃ c, nextCommand s = some c ∧ turnsOff c := by
  rcases hd.row_cases hx with ⟨-, rfl⟩ | ⟨c, hc, hrow⟩
  · exact absurd (hu.symm.trans hv) Bool.false_ne_true
  · rcases hrow.ledPower_cases with hkept | ⟨hgate, ⟨-, hup⟩ | ⟨hentry, -, hoff⟩⟩
    · exact absurd (hu.symm.trans (hkept.trans hv)) Bool.false_ne_true
    · exact absurd (hu.symm.trans hup) Bool.false_ne_true
    · exact ⟨(fetched_fetchPhases now wake s).cfg ▸ hgate, hoff, c, hc, turnsOff_iff.mpr hentry⟩

/-- Settles O57: up, only the row of an ignite drives it; down, the reset exit, the row of an off or the end of a
darkening, which began in Extinguishing or by an extinguish. -/
theorem ledPowerFollowsIgniteAndOff : Obligations.LedPowerFollowsIgniteAndOff := by
  intro s t h
  cases stepCase_of_next h with
  | pulse => exact ⟨fun ht hs => absurd (hs.symm.trans ht) Bool.false_ne_true, fun ht hs =>
      absurd (ht.symm.trans hs) Bool.false_ne_true⟩
  | pass now wake u hx hd =>
    simp only [finishPhases_fields]
    refine ⟨hd.ledPower_raised hx, fun ht hs => ?_⟩
    rcases fetched_ledPower_cases now wake s with hv | ⟨hgate, hexit, -⟩
    · cases hu : u.ledPower with
      | true =>
        rcases tick_ledPower_cases u with hkept | ⟨hgate, hext, hoff, -⟩
        · exact absurd (ht.symm.trans (hkept.trans hu)) Bool.false_ne_true
        · rw [hd.sameInputs.cfg, (fetched_fetchPhases now wake s).cfg] at hgate
          refine ⟨hgate, .inl hoff, .inr ?_⟩
          rcases hd.state_cases hx hext (by decide) (by decide) with hs | ⟨c, hc, hentry⟩
          · exact .inl hs
          · exact .inr ⟨c, hc, .inr (extinguishes_iff.mpr hentry)⟩
      | false =>
        obtain ⟨hgate, hoff, c, hc, hturn⟩ := hd.ledPower_cut hx (hv.trans hs) hu
        exact ⟨hgate, .inl (tick_state_of_off hoff), .inr (.inr ⟨c, hc, .inl hturn⟩)⟩
    · exact ⟨hgate, .inr hexit, .inl hexit⟩

/-- What phase 2 does to the fields of the frame: the profile and the extinguish record are not lost, `last_command` is
the published byte, and without one nothing changes. -/
theorem Dispatched.keeps {now wake : Time} {u : State} (hx : (nextStimulus s).1 = .pass now wake)
    (hd : Dispatched (fetchPhases now wake (nextStimulus s).2) u) :
    (s.profValid = true → u.profValid = true) ∧ (s.extTsValid = true → u.extTsValid = true) ∧
      u.lastCommand = (nextCommand s).getD s.lastCommand ∧
      (nextCommand s = none → u.profValid = s.profValid ∧ u.profFam = s.profFam ∧ u.profIdx = s.profIdx ∧
        u.extTs = s.extTs) := by
  have hv : Fetched s now wake _ := fetched_fetchPhases now wake s
  rw [← hv.profValid, ← hv.extTsValid, ← hv.lastCommand, ← hv.profFam, ← hv.profIdx, ← hv.extTs,
    nextCommand_of_pass hx]
  rcases hd with ⟨hnone, rfl⟩ | ⟨c, hc, hexec, hstep⟩
  · rw [hnone]
    exact ⟨id, id, rfl, fun _ => ⟨rfl, rfl, rfl, rfl⟩⟩
  · obtain ⟨hprof, hext⟩ := CommandStep.keeps _ hstep
    rw [hc, (exec_rowStep hexec).lastCommand_eq, encodeByte_decodeByte]
    exact ⟨hprof, hext, rfl, fun hnone => nomatch hnone⟩

/-- Settles O59: a pulse writes what `StepCase.pulse` shows; in a pass only the command writes any of these fields. -/
theorem stepFrame : Obligations.StepFrame := by
  intro s t h
  cases stepCase_of_next h with
  | pulse hx v d q n =>
    rw [nextCommand_of_pulse hx]
    refine ⟨rfl, id, id, rfl, fun _ => ⟨rfl, rfl, rfl, rfl⟩, fun _ => ⟨v, d, q, n, ?_⟩, fun now wake hp => ?_⟩
    · rw [Window.pulseEnded_eq]
    · exact absurd hp (hx now wake)
  | pass now wake u hx hd =>
    have hv : Fetched s now wake _ := fetched_fetchPhases now wake s
    have hu := hd.sameInputs
    obtain ⟨hprof, hext, hlast, hnone⟩ := hd.keeps hx
    simp only [finishPhases_fields]
    refine ⟨hu.cfg.trans hv.cfg, hprof, hext, hlast, hnone, fun hp => absurd hx (hp now wake), fun _ _ _ howed => ?_⟩
    rcases tick_wake u with ⟨-, -, htick⟩ | ⟨-, -, hkept⟩
    · rw [htick]
    · rw [hkept, hu.wakeOwed, hv.wakeOwed, howed]

end Sys2Proof.Machine
end

section
/-! The records (60_exceptions.md R262, R270, R273): each phase of a pass appends some, and only Off's tick a Sleep. -/

namespace Sys2Proof.Machine

/-- A phase appends records, and no Sleep. -/
def AppendsNoSleep (s t : State) : Prop := ∃ added : List Record, t.trace = s.trace ++ added ∧ Record.sleep ∉ added

variable {s t u : State}

theorem AppendsNoSleep.of_eq (h : t.trace = s.trace) : AppendsNoSleep s t := ⟨[], by simp [h]⟩

theorem AppendsNoSleep.trans (h : AppendsNoSleep s t) (h' : AppendsNoSleep t u) : AppendsNoSleep s u := by
  obtain ⟨a, ha, hna⟩ := h
  obtain ⟨b, hb, hnb⟩ := h'
  exact ⟨a ++ b, by rw [hb, ha, List.append_assoc], by simp [hna, hnb]⟩

/-- Everything before the tick of a pass appends no Sleep. -/
theorem Dispatched.appendsNoSleep {now wake : Time} (hd : Dispatched (fetchPhases now wake (nextStimulus s).2) u) :
    AppendsNoSleep s u := by
  obtain ⟨q, n, hpoll⟩ := nextStimulus_frame s
  have hlatched : AppendsNoSleep s (latchInputs now wake (nextStimulus s).2) := .of_eq (by simp [hpoll])
  have hout : AppendsNoSleep (latchInputs now wake (nextStimulus s).2)
      (resetExit (latchInputs now wake (nextStimulus s).2)) := by
    rw [resetExit_eq]
    split
    · exact enter_trace _ _
    · exact .of_eq rfl
  have hfetched : AppendsNoSleep s (fetchPhases now wake (nextStimulus s).2).1 :=
    (hlatched.trans hout).trans (decodePass_trace _)
  rcases hd with ⟨-, rfl⟩ | ⟨c, -, -, hstep⟩
  · exact hfetched
  · exact hfetched.trans (CommandStep.trace _ hstep)

/-- Settles O60: only the tick can append a Sleep (`tick_trace`), and then it is Off's, which re-arms from the wake
time. -/
theorem sleepOnlyFromOff : Obligations.SleepOnlyFromOff := by
  constructor
  · intro s
    obtain ⟨added, hadded, hsleep⟩ := tick_trace s
    refine ⟨added, hadded, fun hmem => ?_⟩
    obtain ⟨hoff, he⟩ := hsleep hmem
    obtain ⟨harmed, hlen⟩ := elapsed_iff.mp he
    exact ⟨hoff, harmed, hlen, (offTickSleepsAndRearms s hoff).1 ⟨harmed, hlen⟩⟩
  · intro s t h
    cases stepCase_of_next h with
    | pulse => exact ⟨[], (List.append_nil _).symm, fun hmem => nomatch hmem⟩
    | pass now wake u hx hd =>
      obtain ⟨before, hbefore, hnbefore⟩ := hd.appendsNoSleep
      obtain ⟨ticked, hticked, hsleep⟩ := tick_trace u
      obtain ⟨after, hafter, hnafter⟩ := presentPhase_trace (tick u)
      refine ⟨before ++ ticked ++ after, ?_, fun hmem => ⟨now, wake, hx, ?_⟩⟩
      · rw [finishPhases, hafter, hticked, hbefore]
        simp only [List.append_assoc]
      · have hmem' : Record.sleep ∈ ticked := by simpa [hnbefore, hnafter] using hmem
        obtain ⟨hoff, he⟩ := hsleep hmem'
        obtain ⟨harmed, hlen⟩ := elapsed_iff.mp he
        have hwake : u.wake = wake := hd.sameInputs.wake.trans (fetched_fetchPhases now wake s).wake
        simp only [finishPhases_fields, (offTickSleepsAndRearms u hoff).1 ⟨harmed, hlen⟩]
        exact ⟨hoff, harmed, hwake⟩

end Sys2Proof.Machine
end

section
/-! Nothing reads the records (60_exceptions.md R262, R274): putting older records before a state's own commutes with every
operation, and so with a step. -/

namespace Sys2Proof.Machine

/-- The state with these records before its own. -/
def withPast (past : List Record) (s : State) : State := { s with trace := past ++ s.trace }

variable (past : List Record) (s : State)

/-! What the operations read of a state, and the operations that write no record, with the older records pushed out. -/

@[simp] theorem withPast_state : (withPast past s).state = s.state := rfl
@[simp] theorem withPast_colorMode : (withPast past s).colorMode = s.colorMode := rfl
@[simp] theorem withPast_primaryColor : (withPast past s).primaryColor = s.primaryColor := rfl
@[simp] theorem withPast_brightness : (withPast past s).brightness = s.brightness := rfl
@[simp] theorem withPast_timerArmed : (withPast past s).timerArmed = s.timerArmed := rfl
@[simp] theorem withPast_extPhase : (withPast past s).extPhase = s.extPhase := rfl
@[simp] theorem withPast_animCount : (withPast past s).animCount = s.animCount := rfl
@[simp] theorem withPast_cfg : (withPast past s).cfg = s.cfg := rfl
@[simp] theorem elapsed_withPast : elapsed (withPast past s) = elapsed s := rfl
@[simp] theorem animTarget_withPast : animTarget (withPast past s) = animTarget s := rfl
@[simp] theorem clearTimer_withPast : clearTimer (withPast past s) = withPast past (clearTimer s) := rfl
@[simp] theorem markDirty_withPast : markDirty (withPast past s) = withPast past (markDirty s) := rfl
@[simp] theorem fillAll_withPast (c : Rgb) : fillAll c (withPast past s) = withPast past (fillAll c s) := rfl
@[simp] theorem setBrightness_withPast (b : Byte) :
    setBrightness b (withPast past s) = withPast past (setBrightness b s) := rfl
@[simp] theorem wheelAdvance_withPast : wheelAdvance (withPast past s) = withPast past (wheelAdvance s) := rfl
@[simp] theorem setState_withPast (b : BladeState) :
    setState b (withPast past s) = withPast past (setState b s) := rfl
@[simp] theorem setAnimCount_withPast (n : Nat) :
    setAnimCount n (withPast past s) = withPast past (setAnimCount n s) := rfl
@[simp] theorem armTimer_withPast (len : Time) :
    armTimer len (withPast past s) = withPast past (armTimer len s) := rfl
@[simp] theorem recordCommand_withPast (c : Byte) :
    recordCommand c (withPast past s) = withPast past (recordCommand c s) := rfl
@[simp] theorem selectProfile_withPast (f : Family) (p : Nibble) :
    selectProfile f p (withPast past s) = withPast past (selectProfile f p s) := rfl
@[simp] theorem activeProfile_withPast : activeProfile (withPast past s) = activeProfile s := rfl

@[simp] theorem emit_withPast (r : Record) : emit r (withPast past s) = withPast past (emit r s) := by
  simp only [emit, withPast, List.append_assoc]

/-! The decoder and the capture. -/

theorem nextStimulus_withPast :
    nextStimulus (withPast past s) = ((nextStimulus s).1, withPast past (nextStimulus s).2) := by
  simp only [nextStimulus, withPast]
  cases s.stim <;> rfl

theorem deliver_withPast (d : Time) : deliver d (withPast past s) = withPast past (deliver d s) := by
  cases hv : s.slotValid with
  | true => rw [deliver_of_slotValid d hv, deliver_of_slotValid d (by exact hv)]; rfl
  | false => rw [deliver_of_slotEmpty d hv, deliver_of_slotEmpty d (by exact hv)]; rfl

theorem deliverOverlapped_withPast :
    deliverOverlapped (withPast past s) = withPast past (deliverOverlapped s) := by
  have hdraws : (withPast past s).draws = s.draws := rfl
  rw [deliverOverlapped, deliverOverlapped, hdraws]
  cases Config.freeCapture s.draws with
  | none => rfl
  | some d => exact deliver_withPast past { s with draws := s.draws + 1 } d

theorem bitPulse_withPast (b : Bool) :
    bitPulse b (withPast past s) = (withPast past (bitPulse b s).1, (bitPulse b s).2) := by
  by_cases hn : s.nbits = 7#3
  · rw [bitPulse_of_seven b hn, bitPulse_of_seven b (by exact hn)]
    exact congrArg (·, _) (emit_withPast past { s with acc := shiftIn s.acc b, nbits := 0#3, suppress := false } _)
  · rw [bitPulse_of_ne_seven b hn, bitPulse_of_ne_seven b (by exact hn)]
    rfl

theorem consumePulse_withPast (d : Time) :
    consumePulse d (withPast past s) = (withPast past (consumePulse d s).1, (consumePulse d s).2) := by
  have hbit := bitPulse_withPast past { s with lastPulseTs := s.now }
  have hclass : classify (withPast past s).cfg d = classify s.cfg d := rfl
  rw [consumePulse, consumePulse, hclass]
  cases classify s.cfg d with
  | resync => exact congrArg (·, none) (emit_withPast past (emptyDecoder false { s with lastPulseTs := s.now }) _)
  | preamble => exact congrArg (·, none) (emit_withPast past (emptyDecoder true { s with lastPulseTs := s.now }) _)
  | bit0 => exact hbit false
  | bit1 => exact hbit true

theorem decodePass_withPast :
    decodePass (withPast past s) = (withPast past (decodePass s).1, (decodePass s).2) := by
  cases hv : s.slotValid with
  | true =>
    rw [decodePass_of_slotValid hv, decodePass_of_slotValid (by exact hv)]
    exact consumePulse_withPast past { s with slotValid := false } s.slotDur
  | false =>
    have htime : timedOut (withPast past s) = timedOut s := rfl
    rw [decodePass_of_slotEmpty hv, decodePass_of_slotEmpty (by exact hv), timeoutCheck, timeoutCheck, htime]
    split
    · exact congrArg (·, none) (emit_withPast past (emptyDecoder false s) _)
    · rfl

/-! The entries and the commands. -/

@[simp] theorem setPower_withPast (level : Bool) :
    setPower level (withPast past s) = withPast past (setPower level s) := by
  have hgate : (withPast past s).cfg = s.cfg := rfl
  rw [setPower, setPower, hgate]
  split
  · exact emit_withPast past { s with ledPower := level } _
  · rfl

@[simp] theorem derive_withPast : derive (withPast past s) = withPast past (derive s) := by
  have hmode : (withPast past s).colorMode = s.colorMode := rfl
  unfold derive
  rw [hmode]
  split <;> rfl

@[simp] theorem advanceMode_withPast : advanceMode (withPast past s) = withPast past (advanceMode s) := by
  rw [advanceMode_eq, advanceMode_eq]
  rfl

theorem enterIdle_withPast : enterIdle (withPast past s) = withPast past (enterIdle s) := by
  simp only [enterIdle, apply_ite (withPast past)]
  rfl

theorem enterIgniting_withPast : enterIgniting (withPast past s) = withPast past (enterIgniting s) := by
  simp [enterIgniting]

theorem enterRefresh_withPast : enterRefresh (withPast past s) = withPast past (enterRefresh s) := by
  simp only [enterRefresh, enterOn, setState_withPast, withPast_colorMode, derive_withPast, ← apply_ite (withPast past),
    withPast_primaryColor, fillAll_withPast, setBrightness_withPast, markDirty_withPast, enterIdle_withPast]

/-- No entry reads the records. -/
@[simp] theorem enter_withPast (b : BladeState) : enter b (withPast past s) = withPast past (enter b s) := by
  cases b with
  | off => simp [enter, enterOff]
  | igniting => exact enterIgniting_withPast past s
  | on => exact enterIdle_withPast past (setState .on s)
  | idle => exact enterIdle_withPast past s
  | refresh => exact enterRefresh_withPast past s
  | uninitialized | clash | extinguishing | flickerLow | flickerHigh | reserved => rfl

theorem enterWithProfile_withPast (b : BladeState) (c : Byte) :
    enterWithProfile b c (withPast past s) = withPast past (enterWithProfile b c s) := by
  simp only [enterWithProfile, apply_ite (withPast past), enter_withPast, emit_withPast]
  rfl

theorem setColor_withPast (f : Family) (p : Nibble) (c : Byte) :
    setColor f p c (withPast past s) = withPast past (setColor f p c s) := by
  simp only [setColor, apply_ite (withPast past), selectProfile_withPast, enter_withPast, emit_withPast]
  rfl

/-- No command reads the records. -/
theorem exec_withPast {i : Instr} {t : State} (h : exec i s = .next t) :
    exec i (withPast past s) = .next (withPast past t) := by
  cases i with
  | nop0 p | nop1 p => simp only [exec_nop0, exec_nop1] at h ⊢; cases h; simp
  | igniteA p | igniteB p => simp only [exec_igniteA, exec_igniteB] at h ⊢; cases h; simp
  | extinguish4 p | extinguish5 p =>
    simp only [exec_extinguish4, exec_extinguish5] at h ⊢; cases h; simp [enterWithProfile_withPast]
  | flickerLo p | flickerHi p =>
    simp only [exec_flickerLo, exec_flickerHi] at h ⊢; cases h; simp [enterWithProfile_withPast]
  | clashC p | clashD p => simp only [exec_clashC, exec_clashD] at h ⊢; cases h; simp [enterWithProfile_withPast]
  | off8 p | off9 p | offE p | offF p =>
    simp only [exec_off8, exec_off9, exec_offE, exec_offF] at h ⊢; cases h; simp
  | setcolorA p | setcolorB p => simp only [exec_setcolorA, exec_setcolorB] at h ⊢; cases h; simp [setColor_withPast]

/-! The ticks. -/

theorem setPixels_withPast (js : List Nat) (c : Rgb) :
    js.foldl (fun t j => setPixel j c t) (withPast past s) =
      withPast past (js.foldl (fun t j => setPixel j c t) s) := by
  induction js generalizing s with
  | nil => rfl
  | cons j js ih => exact ih (setPixel j c s)

theorem lightUp_withPast (c : Rgb) (k n : Nat) :
    lightUp c k n (withPast past s) = withPast past (lightUp c k n s) := by
  induction n generalizing k s with
  | zero => rfl
  | succ n ih =>
    have hlight : lightLogical k c (withPast past s) = withPast past (lightLogical k c s) :=
      setPixels_withPast past s _ c
    rw [lightUp, lightUp, hlight, ih]

theorem darken_withPast (m n : Nat) : darken m n (withPast past s) = withPast past (darken m n s) := by
  induction n generalizing m s with
  | zero => rfl
  | succ n ih =>
    have hlight : lightLogical (nLog (withPast past s).cfg - 1 - m) Rgb.black (withPast past s) =
        withPast past (lightLogical (nLog s.cfg - 1 - m) Rgb.black s) := setPixels_withPast past s _ _
    rw [darken, darken, hlight, ih]

theorem progress_withPast (t : Nat) : progress t (withPast past s) = withPast past (progress t s) := by
  rw [progress_eq, progress_eq]
  rfl

theorem ignitingTick_withPast : ignitingTick (withPast past s) = withPast past (ignitingTick s) := by
  simp [ignitingTick, apply_ite (withPast past), lightUp_withPast, progress_withPast]

theorem extAnimTick_withPast : extAnimTick (withPast past s) = withPast past (extAnimTick s) := by
  simp [extAnimTick, apply_ite (withPast past), darken_withPast, progress_withPast]

theorem extDelayTick_withPast : extDelayTick (withPast past s) = withPast past (extDelayTick s) := by
  have hstart := extAnimTick_withPast past
    { s with extPhase := .anim, timerStart := s.now, timerLen := (activeProfile s).extinguishTime }
  rw [extDelayTick, extDelayTick, elapsed_withPast, apply_ite (withPast past), ← hstart]
  rfl

theorem offTick_withPast : offTick (withPast past s) = withPast past (offTick s) := by
  simp only [offTick, elapsed_withPast, apply_ite (withPast past), emit_withPast]
  rfl

theorem idleTick_withPast : idleTick (withPast past s) = withPast past (idleTick s) := by
  rw [idleTick, idleTick, apply_ite (withPast past)]
  rfl

theorem clashToggle_withPast : clashToggle (withPast past s) = withPast past (clashToggle s) := by
  unfold clashToggle
  rw [withPast_colorMode]
  split
  · exact derive_withPast past { s with colorMode := .wheelCycleWhite }
  · exact derive_withPast past { s with colorMode := .wheelCycle }
  · rfl

/-- No tick reads the records. -/
theorem tick_withPast : tick (withPast past s) = withPast past (tick s) := by
  unfold tick
  rw [withPast_state, withPast_extPhase]
  split
  · exact ignitingTick_withPast past s
  · split
    · exact extDelayTick_withPast past s
    · exact extAnimTick_withPast past s
  · exact offTick_withPast past s
  · exact idleTick_withPast past s
  · simp [clashTick, apply_ite (withPast past), clashToggle_withPast]
  · simp [flickerLowTick, endFlicker, apply_ite (withPast past)]
  · simp [flickerHighTick, endFlicker, apply_ite (withPast past)]
  all_goals rfl

/-! The pass and the step. -/

theorem presentPhase_withPast : presentPhase (withPast past s) = withPast past (presentPhase s) := by
  have hpresent := emit_withPast past { s with window := .latest, dirty := false } (.present s.fb s.sinkBrightness)
  unfold presentPhase
  rw [apply_ite (withPast past), apply_ite (withPast past)]
  exact congrArg₂ (ite (presentDue s = true)) hpresent rfl

theorem fetchPhases_withPast (now wake : Time) : fetchPhases now wake (withPast past s) =
    (withPast past (fetchPhases now wake s).1, (fetchPhases now wake s).2) := by
  have hexit : resetExit (latchInputs now wake (withPast past s)) =
      withPast past (resetExit (latchInputs now wake s)) := by
    rw [resetExit_eq, resetExit_eq, apply_ite (withPast past), ← enter_withPast]
    rfl
  rw [fetchPhases, hexit, decodePass_withPast]
  rfl

theorem dispatched_withPast {r : State × Option Byte} {u : State} (h : Dispatched r u) :
    dispatchPublished r.2 (withPast past r.1) = .next (withPast past u) := by
  rcases h with ⟨hnone, rfl⟩ | ⟨c, hc, hexec, -⟩
  · rw [hnone]; rfl
  · rw [hc]; exact exec_withPast past _ hexec

/-- No event reads the records. -/
theorem runStimulus_withPast {x : Stimulus} {t : State} (h : runStimulus x s = .next t) :
    runStimulus x (withPast past s) = .next (withPast past t) := by
  cases x with
  | deliver d => cases h; exact congrArg _ (deliver_withPast past s d)
  | overlapped => cases h; exact congrArg _ (deliverOverlapped_withPast past s)
  | pass now wake =>
    obtain ⟨u, hd, rfl⟩ := runPass_next h
    have hrun := dispatched_withPast past hd
    rw [runStimulus, runPass, fetchPhases_withPast]
    simp only [hrun, finishPhases, tick_withPast, presentPhase_withPast]

/-- Nor does the check of the duties. -/
theorem brokenDuty_withPast (x : Stimulus) : brokenDuty x (withPast past s) = brokenDuty x s := by
  cases x with
  | deliver d => rfl
  | overlapped => rfl
  | pass now wake =>
    obtain ⟨u, hd, -⟩ := runPass_step s now wake
    have hsleep : callsSleep now wake (withPast past s) = callsSleep now wake s := by
      rw [callsSleep_eq s (dispatched_iff.mp hd), callsSleep_eq (withPast past s) (u := withPast past u)]
      · rfl
      · rw [fetchPhases_withPast]; exact dispatched_withPast past hd
    simp only [brokenDuty, hsleep]
    rfl

/-- Settles O58: the older records go through every part of the step (`runStimulus_withPast`). -/
theorem traceIsAppendedAndNeverRead : Obligations.TraceIsAppendedAndNeverRead := by
  intro s t past h
  obtain ⟨hw, hf, hduty, hrun⟩ := step_next h
  have hpast : { s with trace := past } = withPast past { s with trace := [] } := by
    rw [withPast, List.append_nil]
  have hfault : foundFault (withPast past { s with trace := [] }) = none := hf
  rw [hpast, step_eq (by exact hw) hfault, nextStimulus_withPast]
  simp only [brokenDuty_withPast, hduty]
  exact runStimulus_withPast past _ hrun

end Sys2Proof.Machine
end

section
/-! The present phase, reset, and the checks of a step (44_loop.md R245; 10_state.md R45 to R49; 93 U1 to U3, U18, U19). -/

namespace Sys2Proof.Machine

open Sys2Proof.Claims

variable {s : State}

theorem presentDue_iff : presentDue s = true ↔ s.dirty = true ∧ s.suppress = false := by
  rw [presentDue, Bool.and_eq_true, Bool.not_eq_true']

theorem presentPhase_of_due (h : s.dirty = true ∧ s.suppress = false) : presentPhase s = { s with
    dirty := false, window := .latest, trace := s.trace ++ [.present s.fb s.sinkBrightness] } := by
  rw [presentPhase, if_pos (presentDue_iff.mpr h)]
  rfl

/-- Settles O47: due, suppressed, or clean. -/
theorem presentOnlyWhenDirtyAndNotSuppressed : Obligations.PresentOnlyWhenDirtyAndNotSuppressed := by
  refine fun s => ⟨presentPhase_of_due, fun hsup => ?_, fun hclean hsup => ?_⟩
  · have hdue : presentDue s = false := by rw [presentDue, hsup, Bool.not_true, Bool.and_false]
    rw [presentPhase, hdue, if_neg Bool.false_ne_true, if_pos hsup]
  · have hdue : presentDue s = false := by rw [presentDue, hclean, Bool.false_and]
    rw [presentPhase, hdue, if_neg Bool.false_ne_true, hsup, if_neg Bool.false_ne_true]

/-- Settles O48: the fields of `State.resetWith`. -/
theorem resetValues : Obligations.ResetValues := fun _ _ _ _ =>
  ⟨⟨rfl, rfl, rfl, rfl, rfl⟩, ⟨rfl, rfl, rfl, rfl, rfl, rfl, rfl, rfl, rfl⟩,
    ⟨rfl, rfl, rfl, rfl, rfl, rfl, rfl, rfl, rfl, rfl⟩⟩

/-- Settles O51: `wf_iff` lists the constraints, and the configuration is the first thing a step checks. -/
theorem stepRefusesIllFormedConfig : Obligations.StepRefusesIllFormedConfig := by
  intro s h
  rw [← wf_iff] at h
  rw [step, if_neg h]

theorem step_of_fault {f : Fault} (hw : s.cfg.wf = true) (hf : foundFault s = some f) : step s = .fault f := by
  unfold step
  rw [if_pos hw]
  split
  · rename_i g hg
    rw [hf] at hg
    cases hg
    rfl
  · rename_i hg
    rw [hf] at hg
    cases hg

/-- A stimulus that breaks no duty is an event, and the step is it. -/
theorem step_of_event (hw : s.cfg.wf = true) (hf : foundFault s = none)
    (hduty : brokenDuty (nextStimulus s).1 (nextStimulus s).2 = none) :
    step s = runStimulus (nextStimulus s).1 (nextStimulus s).2 := by
  rw [step_eq hw hf, hduty]

theorem step_of_brokenDuty {r : Refusal} (hw : s.cfg.wf = true) (hf : foundFault s = none)
    (hduty : brokenDuty (nextStimulus s).1 (nextStimulus s).2 = some r) : step s = .refused r := by
  rw [step_eq hw hf, hduty]

theorem step_answers (hw : s.cfg.wf = true) (hf : foundFault s = none)
    (hduty : brokenDuty (nextStimulus s).1 (nextStimulus s).2 = none) : ∃ t, step s = .next t := by
  rw [step_of_event hw hf hduty]
  exact runStimulus_next _ _

/-- What a bit or a preamble in the slot is to the model, it is to `heldBack` (30_encoding.md R91). -/
theorem slotSuppresses_iff (hw : s.cfg.wf = true) : slotSuppresses s = true ↔ heldBack s := by
  obtain ⟨-, -, -, hresync⟩ := pulseClassesPartition s.cfg s.slotDur hw
  rw [slotSuppresses, heldBack, Bool.and_eq_true, decide_eq_true_iff, ne_eq, hresync, not_and_or, not_not, BitVec.not_le]

theorem timeDutyKept_iff {now : Time} : timeDutyKept now s = true ↔ timely s now := by
  rw [timeDutyKept, timely, Bool.or_eq_true, Bool.and_eq_true, decide_eq_true_iff, decide_eq_true_iff,
    decide_eq_true_iff]

theorem wakeDutyKept_iff {now wake : Time} : wakeDutyKept now wake = true ↔ (wake - now).toNat < 2 ^ 31 :=
  decide_eq_true_iff

theorem sleepDue_iff : sleepDue s = true ↔ s.state = .off ∧ elapsed s = true := by
  unfold sleepDue
  split
  · rename_i hoff
    exact ⟨fun he => ⟨hoff, he⟩, fun h => h.2⟩
  · rename_i hoff
    exact ⟨fun h => absurd h Bool.false_ne_true, fun h => absurd h.1 hoff⟩

/-- The model's test of a sleep is the phase 2 state of `asksForSleep`. -/
theorem callsSleep_iff {now wake : Time} :
    callsSleep now wake (nextStimulus s).2 = true ↔ asksForSleep s now wake := by
  obtain ⟨u, hd, -⟩ := runPass_step (nextStimulus s).2 now wake
  have hrun := dispatched_iff.mp hd
  have hnow : u.now = now := hd.sameInputs.now.trans (fetched_fetchPhases now wake s).now
  have hdue : sleepDue u = true ↔ u.state = .off ∧ u.timerArmed = true ∧ u.timerLen ≤ now - u.timerStart := by
    rw [sleepDue_iff, elapsed_iff, hnow]
  rw [callsSleep_eq _ hrun, hdue, asksForSleep]
  constructor
  · exact fun h => ⟨u, hrun, h⟩
  · rintro ⟨u', hrun', h⟩
    rw [hrun] at hrun'
    cases hrun'
    exact h

/-- Settles O50: the fault check reads the state alone (`foundFault`); past it a step answers exactly where the stimulus
breaks no duty. -/
theorem stepFaultsOnImpossibleStates : Obligations.StepFaultsOnImpossibleStates := by
  intro s hw
  refine ⟨?_, ?_, ?_, ?_⟩
  · rintro ⟨k, hk⟩
    exact step_of_fault hw (by simp [foundFault, hk, BladeState.legal])
  · rintro hl ⟨k, hk⟩
    exact step_of_fault hw (by simp [foundFault, hl, hk, ColorMode.legal])
  · intro hl hm hp hout hoff
    exact step_of_fault hw (by simp [foundFault, hl, hm, hp, preIgnition_iff, hout, hoff])
  · intro hl hm hp
    have hf : foundFault s = none := by
      rw [foundFault_none_iff, preIgnition_iff]
      refine ⟨hl, hm, fun hpre => ?_⟩
      rw [decide_eq_false_iff_not] at hpre
      exact hp.resolve_right hpre
    obtain ⟨q, n, hpoll⟩ := nextStimulus_frame s
    split
    · rename_i d hx
      exact step_answers hw hf (by rw [hx]; rfl)
    · rename_i hx
      have hadmit : brokenDuty .overlapped (nextStimulus s).2 = none ↔ s.window ≠ .shut ∧ ¬heldBack s := by
        rw [brokenDuty_overlapped_none_iff, overlapAdmitted, hpoll, Bool.and_eq_true, decide_eq_true_iff,
          ← slotSuppresses_iff hw, Bool.not_eq_true', Bool.not_eq_true]
        rfl
      constructor
      · intro h
        apply step_of_brokenDuty hw hf
        rw [hx, brokenDuty_overlapped_some_iff, ← Bool.not_eq_true, ← brokenDuty_overlapped_none_iff, hadmit, not_and_or]
        exact h.imp not_not.mpr not_not.mpr
      · intro hwin hheld
        exact step_answers hw hf (by rw [hx, hadmit]; exact ⟨hwin, hheld⟩)
    · rename_i now wake hx
      have htime : timeDutyKept now (nextStimulus s).2 = true ↔ timely s now := by
        rw [timeDutyKept_iff, hpoll]
        rfl
      refine ⟨fun h => ?_, fun h hno => ?_, fun h hasks => ⟨fun hlate => ?_, fun hkept => ?_⟩⟩
      · apply step_of_brokenDuty hw hf
        rw [hx, brokenDuty, if_neg (htime.not.mpr h)]
      · apply step_answers hw hf
        rw [hx, brokenDuty_pass_none_iff]
        exact ⟨htime.mpr h, fun hs => absurd (callsSleep_iff.mp hs) hno⟩
      · apply step_of_brokenDuty hw hf
        have hbroken : wakeDutyKept now wake = false := by
          rw [← Bool.not_eq_true, wakeDutyKept_iff]
          exact not_lt.mpr hlate
        rw [hx, brokenDuty, if_pos (htime.mpr h), callsSleep_iff.mpr hasks, hbroken]
        rfl
      · apply step_answers hw hf
        rw [hx, brokenDuty_pass_none_iff]
        exact ⟨htime.mpr h, fun _ => wakeDutyKept_iff.mpr hkept⟩

end Sys2Proof.Machine
end

section
/-! The step as its event (44_loop.md R240, R241, R243): a queued stimulus, a placed command (log entry 2), the first
pass (R242). -/

namespace Sys2Proof.Machine

variable {s : State}

theorem nextStimulus_of_queued {x : Stimulus} {rest : List Stimulus} (h : s.stim = x :: rest) :
    nextStimulus s = (x, { s with stim := rest }) := by
  simp only [nextStimulus, h]

/-- A queued stimulus that breaks no duty is the step. -/
theorem step_of_queued {x : Stimulus} {rest : List Stimulus} (hw : s.cfg.wf = true) (hf : foundFault s = none)
    (hx : s.stim = x :: rest) (hduty : brokenDuty x { s with stim := rest } = none) :
    step s = runStimulus x { s with stim := rest } := by
  have hpoll := nextStimulus_of_queued hx
  rw [step_of_event hw hf (by rw [hpoll]; exact hduty), hpoll]

/-- A pass whose fetch phases and dispatch are known. -/
theorem runPass_of_dispatched {now wake : Time} {u : State} (hd : Dispatched (fetchPhases now wake s) u) :
    runPass now wake s = .next (presentPhase (tick u)) := by
  have hrun := dispatched_iff.mp hd
  simp only [runPass, hrun, finishPhases]

/-- Settles O45: `step_of_queued`, and for a pass the byte published decides what phase 2 does. -/
theorem stepRunsTheDecodedInstruction : Obligations.StepRunsTheDecodedInstruction := by
  intro s rest hw hf
  refine ⟨fun d hx => step_of_queued hw hf hx rfl, fun hx hduty => step_of_queued hw hf hx hduty,
    fun now wake u cmd hx hduty hfetch => ?_⟩
  have hfetched : fetchPhases now wake { s with stim := rest } = (u, cmd) := hfetch
  have hstep : step s = runPass now wake { s with stim := rest } := step_of_queued hw hf hx hduty
  constructor
  · rintro c i t rfl hdecode hexec
    have hi : decodeByte c = i := by
      rw [decode] at hdecode
      injection hdecode with hpair
      exact congrArg Prod.fst hpair
    rw [hstep]
    apply runPass_of_dispatched
    rw [hfetched, dispatched_iff]
    subst hi
    exact hexec
  · rintro rfl
    rw [hstep]
    apply runPass_of_dispatched
    rw [hfetched, dispatched_iff]
    rfl

/-- The bit of a placed pulse is the one R91 reads off its duration. -/
theorem bitDuration_bit {cfg : Config} (hw : cfg.wf = true) (b : Bool) :
    bitDuration cfg b < cfg.cutoff ∧ decide (cfg.split ≤ bitDuration cfg b) = b := by
  obtain ⟨hpos, hcut, -⟩ := (wf_iff cfg).mp hw
  cases b with
  | true => exact ⟨hcut, decide_eq_true (BitVec.le_refl _)⟩
  | false => exact ⟨BitVec.lt_trans hpos hcut, decide_eq_false (BitVec.not_le.mpr hpos)⟩

/-- A loaded byte is what the next decode pass publishes (40_decoder.md R116). -/
theorem decodePass_loadCommand {c : Byte} (hw : s.cfg.wf = true) :
    decodePass (loadCommand c s) = ({ s with
      acc := c, nbits := 0#3, suppress := false, lastPulseTs := s.now, slotValid := false, wakeOwed := false,
      window := .shut, slotDur := bitDuration s.cfg (c.getLsbD 0), trace := s.trace ++ [.command c] }, some c) := by
  obtain ⟨hlt, hbit⟩ := bitDuration_bit hw (c.getLsbD 0)
  have hbit' : decide ((loadCommand c s).cfg.split ≤ (loadCommand c s).slotDur) = c.getLsbD 0 := hbit
  rw [decodePass_of_lt_cutoff rfl (by exact hlt), hbit', bitPulse_of_seven _ rfl]
  show finalBit (shiftIn (c >>> 1) (c.getLsbD 0)) { loadCommand c s with
    slotValid := false, lastPulseTs := s.now, acc := shiftIn (c >>> 1) (c.getLsbD 0) } = _
  rw [shiftIn_ushiftRight]
  rfl

/-- The loaded byte waits through the latching and the reset exit. -/
theorem resetExit_latchInputs_loadCommand (now wake : Time) (c : Byte) (s : State) :
    resetExit (latchInputs now wake (loadCommand c s)) = loadCommand c (resetExit (latchInputs now wake s)) := by
  rw [resetExit_eq, resetExit_eq]
  by_cases hs : s.state = .uninitialized
  · rw [if_pos (by exact hs), if_pos (by exact hs), enterOffEffect, enterOffEffect]
    rfl
  · rw [if_neg (by exact hs), if_neg (by exact hs)]
    rfl

theorem withFetchWord_eq (c : Byte) (s : State) : s.withFetchWord 8 c.toNat =
    { loadCommand c s with stim := .pass s.awakeAt s.awakeAt :: s.stim } := by
  rw [State.withFetchWord, Nat.mod_eq_of_lt c.isLt, BitVec.ofNat_toNat, BitVec.setWidth_eq]

/-- Settles O46: the placed pass keeps its duties, publishes the byte and dispatches it. -/
theorem placedCommandRunsNext : Obligations.PlacedCommandRunsNext := by
  intro s c hw hf htime
  have hduty : brokenDuty (.pass s.awakeAt s.awakeAt) (loadCommand c s) = none := by
    rw [brokenDuty_pass_none_iff, timeDutyKept_iff, wakeDutyKept_iff]
    exact ⟨htime.imp_right fun hlt => ⟨hlt, Nat.le_refl _⟩, fun _ => by simp⟩
  have hfetch : fetchPhases s.awakeAt s.awakeAt (loadCommand c s) =
      ({ resetExit (latchInputs s.awakeAt s.awakeAt s) with
        acc := c, nbits := 0#3, suppress := false, lastPulseTs := s.awakeAt, slotValid := false, wakeOwed := false,
        window := .shut, slotDur := bitDuration s.cfg (c.getLsbD 0),
        trace := (resetExit (latchInputs s.awakeAt s.awakeAt s)).trace ++ [.command c] }, some c) := by
    have hcfg : (resetExit (latchInputs s.awakeAt s.awakeAt s)).cfg = s.cfg := by
      rw [resetExit_eq]; split <;> simp
    have hnow : (resetExit (latchInputs s.awakeAt s.awakeAt s)).now = s.awakeAt := by
      rw [resetExit_eq]; split <;> simp
    rw [fetchPhases, resetExit_latchInputs_loadCommand]
    generalize resetExit (latchInputs s.awakeAt s.awakeAt s) = v at hcfg hnow
    rw [decodePass_loadCommand (by rw [hcfg]; exact hw), ← hcfg, ← hnow]
  obtain ⟨t, hexec, hstep⟩ := exec_step _ (decodeByte c)
  refine ⟨t, hexec, ?_⟩
  rw [withFetchWord_eq, step_of_queued (s := { loadCommand c s with stim := .pass s.awakeAt s.awakeAt :: s.stim })
    hw hf rfl hduty]
  apply runPass_of_dispatched
  rw [dispatched_iff]
  show dispatchPublished (fetchPhases s.awakeAt s.awakeAt (loadCommand c s)).2
    (fetchPhases s.awakeAt s.awakeAt (loadCommand c s)).1 = _
  rw [hfetch]
  exact hexec

end Sys2Proof.Machine
end

section
/-! The first pass after reset (44_loop.md R242, 70_reset_and_hazards.md R291). -/

namespace Sys2Proof.Machine

/-- The state the first pass's reset exit leaves: Off, dark and dirty, its sleep timer armed from the pass's `now`. -/
def firstOff (cfg : Config) (level : Byte) (dur now wake : Time) (rest : List Stimulus) : State :=
  { State.resetWith cfg (List.replicate cfg.nPixels Rgb.black) level dur with
    state := .off
    dirty := true
    timerArmed := true
    timerStart := now
    timerLen := cfg.sleepIdleTime
    now := now
    wake := wake
    awakeAt := now
    stim := rest
    trace := if cfg.hasPowerGate then [.power false] else [] }

variable (cfg : Config) (level : Byte) (dur now wake : Time) (rest : List Stimulus)

/-- Off's entry from a dark state leaves the LED power as it was, gate or none. -/
theorem enter_off_of_dark {s : State} (h : s.ledPower = false) : enter .off s = { s with
    state := .off, fb := List.replicate s.cfg.nPixels Rgb.black, dirty := true,
    trace := s.trace ++ (if s.cfg.hasPowerGate then [.power false] else []),
    timerArmed := true, timerStart := s.now, timerLen := s.cfg.sleepIdleTime } := by
  rw [enterOffEffect, h, ite_self, ← h]

/-- With no pulse the fetch phases of the first pass are its reset exit. -/
theorem fetchPhases_reset (frame : List Rgb) :
    fetchPhases now wake { State.resetWith cfg frame level dur with stim := rest } =
      (firstOff cfg level dur now wake rest, none) := by
  have hexit : resetExit (latchInputs now wake { State.resetWith cfg frame level dur with stim := rest }) =
      firstOff cfg level dur now wake rest :=
    (resetExit_eq _).trans ((if_pos rfl).trans (enter_off_of_dark rfl))
  rw [fetchPhases, hexit]
  exact (timeoutEmptiesDecoder _ rfl).2 (.inl rfl)

/-- The timer just armed has elapsed exactly where its length is 0. -/
theorem elapsed_firstOff : elapsed (firstOff cfg level dur now wake rest) = decide (cfg.sleepIdleTime = 0#32) := by
  simp [elapsed, firstOff]

/-- The tick of the first pass: a sleep where the sleep time is 0, else nothing. -/
theorem tick_firstOff : tick (firstOff cfg level dur now wake rest) =
    { firstOff cfg level dur now wake rest with
      timerStart := if cfg.sleepIdleTime = 0#32 then wake else now
      awakeAt := if cfg.sleepIdleTime = 0#32 then wake else now
      wakeOwed := decide (cfg.sleepIdleTime = 0#32)
      trace := (if cfg.hasPowerGate then [.power false] else []) ++
        (if cfg.sleepIdleTime = 0#32 then [.sleep] else []) } := by
  rw [tick_off rfl, offTick, elapsed_firstOff]
  by_cases hz : cfg.sleepIdleTime = 0#32
  · simp [hz, requestSleep, emit, firstOff, State.resetWith, Window.slept]
  · simp [hz, firstOff, State.resetWith]

/-- Settles O49: the reset exit enters Off, nothing is published, and the strip it left dirty is presented. -/
theorem firstPassEntersOff : Obligations.FirstPassEntersOff := by
  intro cfg frame level dur now wake rest hw hwake
  have hfetch := fetchPhases_reset cfg level dur now wake rest frame
  have hd : Dispatched (fetchPhases now wake { State.resetWith cfg frame level dur with stim := rest })
      (firstOff cfg level dur now wake rest) := by
    rw [hfetch]
    exact .inl ⟨rfl, rfl⟩
  have hduty : brokenDuty (.pass now wake) { State.resetWith cfg frame level dur with stim := rest } = none := by
    rw [brokenDuty_pass_none_iff, callsSleep_eq _ (dispatched_iff.mp hd), timeDutyKept_iff, sleepDue_iff,
      elapsed_firstOff, decide_eq_true_iff, wakeDutyKept_iff]
    exact ⟨.inl rfl, fun h => hwake h.2⟩
  rw [step_of_queued (s := { State.resetWith cfg frame level dur with stim := .pass now wake :: rest }) (by exact hw)
    rfl rfl hduty]
  refine (runPass_of_dispatched hd).trans ?_
  rw [tick_firstOff, presentPhase_of_due ⟨rfl, rfl⟩]
  rfl

end Sys2Proof.Machine
end
